-- ==== Sys2Proof/Word.lean ====
section
/-! DEFINITION. The word types of the block: every register and every operand word is 32 bits (R8, 00_scope.md). -/

namespace Sys2Proof

/-- A register value or an operand word: 32 bits, unsigned (R6 `REG_W`, R8). -/
abbrev Word := BitVec 32

/-- A transfer byte (R25). -/
abbrev Byte := BitVec 8

end Sys2Proof
end

