-- ==== Sys2Proof/Syntax.lean ====
section
/-! DEFINITION. The instructions: one constructor per row of spec/opcode_table.json. The first eight are commands
(R47, R48, 30_encoding.md), the other twenty-nine are bus transactions (R59, 40_register_block.md). -/

namespace Sys2Proof

/-- Direction of a timing slot or of a transfer: read is code 0, write is code 1 (R6 `NDIR`, R14). -/
inductive Dir where
  | read
  | write
deriving DecidableEq, Repr, Inhabited

/-- The rows of the opcode table. Operands are the command's operand words, whole (R47), or the data word beside a bus
descriptor (R59). -/
inductive Instr where
  /-- R133 -/
  | activate
  /-- R134 -/
  | deactivate
  /-- R100 -/
  | configureClock
  /-- R105 -/
  | activatePins
  /-- R106 -/
  | deactivatePins
  /-- R108: the direction is header bit D -/
  | setTiming (dir : Dir) (ch setup strobe hold pace : Word)
  /-- R123 -/
  | writeByte (ch addr data : Word)
  /-- R124 -/
  | readByte (ch addr : Word)
  /-- R65 -/
  | rdCs
  /-- R66 -/
  | wrCs (v : Word)
  /-- R67 -/
  | rdDsr0
  /-- R68 -/
  | wrDsr0 (v : Word)
  /-- R69 -/
  | rdDsw0
  /-- R70 -/
  | wrDsw0 (v : Word)
  /-- R71 -/
  | rdDsr1
  /-- R72 -/
  | wrDsr1 (v : Word)
  /-- R73 -/
  | rdDsw1
  /-- R74 -/
  | wrDsw1 (v : Word)
  /-- R75 -/
  | rdDsr2
  /-- R76 -/
  | wrDsr2 (v : Word)
  /-- R77 -/
  | rdDsw2
  /-- R78 -/
  | wrDsw2 (v : Word)
  /-- R79 -/
  | rdDsr3
  /-- R80 -/
  | wrDsr3 (v : Word)
  /-- R81 -/
  | rdDsw3
  /-- R82 -/
  | wrDsw3 (v : Word)
  /-- R83 -/
  | rdDcs
  /-- R84 -/
  | wrDcs (v : Word)
  /-- R87 -/
  | rdDa
  /-- R88 -/
  | wrDa (v : Word)
  /-- R89 -/
  | rdDd
  /-- R90 -/
  | wrDd (v : Word)
  /-- R91 -/
  | rdCmCtl
  /-- R93 -/
  | wrCmCtl (v : Word)
  /-- R92 -/
  | rdCmDiv
  /-- R94 -/
  | wrCmDiv (v : Word)
  /-- R95: pin p (5 bits); the function code is the data word's bits 2:0 -/
  | fselGpio (p : BitVec 5) (v : Word)
deriving DecidableEq, Repr

/-- One bus request: the 9-bit descriptor and the data word that travels beside it (R59). -/
structure BusReq where
  desc : BitVec 9
  data : Word
deriving DecidableEq, Repr

/-- How an instruction reaches the block: the words of a command on the command port (R47), or a bus request (R59). -/
inductive Packet where
  | command (words : List Word)
  | bus (req : BusReq)
deriving DecidableEq, Repr

end Sys2Proof
end

