-- ==== Sys2Proof/WellFormed.lean ====
section
/-! DEFINITION. Which instructions the opcode table admits. A command takes any operand words (R47: "Every operand word is
a 32-bit unsigned value"), and so does a register write; a function-select request names a pin of the pin set
(opcode table, FSEL_GPIO_p: IDX[4] = 0; R95, R103). -/

namespace Sys2Proof

/-- `PIN_BASE`, `PIN_COUNT`: GPIO 0..15 (R6, R103). -/
def pinInSet (p : BitVec 5) : Bool := p.toNat < 16

/-- The instruction is a row of the table. -/
def Instr.wellFormed : Instr → Bool
  | .fselGpio p _ => pinInSet p
  | .activate | .deactivate | .configureClock | .activatePins | .deactivatePins => true
  | .setTiming _ _ _ _ _ _ | .writeByte _ _ _ | .readByte _ _ => true
  | .rdCs | .wrCs _ | .rdDsr0 | .wrDsr0 _ | .rdDsw0 | .wrDsw0 _ | .rdDsr1 | .wrDsr1 _ | .rdDsw1 | .wrDsw1 _ => true
  | .rdDsr2 | .wrDsr2 _ | .rdDsw2 | .wrDsw2 _ | .rdDsr3 | .wrDsr3 _ | .rdDsw3 | .wrDsw3 _ => true
  | .rdDcs | .wrDcs _ | .rdDa | .wrDa _ | .rdDd | .wrDd _ => true
  | .rdCmCtl | .wrCmCtl _ | .rdCmDiv | .wrCmDiv _ => true

/-- The instruction is one of the eight commands (R48). -/
def Instr.isCommand : Instr → Bool
  | .activate | .deactivate | .configureClock | .activatePins | .deactivatePins => true
  | .setTiming _ _ _ _ _ _ | .writeByte _ _ _ | .readByte _ _ => true
  | .rdCs | .wrCs _ | .rdDsr0 | .wrDsr0 _ | .rdDsw0 | .wrDsw0 _ | .rdDsr1 | .wrDsr1 _ | .rdDsw1 | .wrDsw1 _ => false
  | .rdDsr2 | .wrDsr2 _ | .rdDsw2 | .wrDsw2 _ | .rdDsr3 | .wrDsr3 _ | .rdDsw3 | .wrDsw3 _ => false
  | .rdDcs | .wrDcs _ | .rdDa | .wrDa _ | .rdDd | .wrDd _ => false
  | .rdCmCtl | .wrCmCtl _ | .rdCmDiv | .wrCmDiv _ => false
  | .fselGpio _ _ => false

end Sys2Proof
end

