-- ==== Sys2Proof/Decode.lean ====
section
/-! DEFINITION. The decoder, total on any words and any descriptor, and the encoder written from the same tables of
30_encoding.md (R47 to R50, R59, R60). A command and a bus descriptor are two formats of the opcode table, which the block
never sees on one port: a `Packet` says which of the two it is. -/

namespace Sys2Proof

/-- Why nothing is decoded. -/
inductive DecodeError where
  /-- R50: the header is outside the opcode map -/
  | illegalCommand
  /-- R47: the words so far are not the whole of a command -/
  | incomplete
  /-- R96: the descriptor matches no row of the BUS format -/
  | unlisted
deriving DecidableEq, Repr

/-! ### Commands -/

/-- Header bits 7:0, OPC (R47). -/
def headerOpc (h : Word) : BitVec 8 := h.extractLsb' 0 8

/-- Header bit 8, D: 0 read, 1 write (R47). -/
def headerDir (h : Word) : Dir := if h.getLsbD 8 then .write else .read

/-- R50: OPC in 0x01..0x08, bits 31:9 zero, and D = 0 unless OPC = 0x06. -/
def headerLegal (h : Word) : Bool :=
  decide (1 ≤ (headerOpc h).toNat) && decide ((headerOpc h).toNat ≤ 8) && (h.extractLsb' 9 23 == 0#23)
    && (!h.getLsbD 8 || headerOpc h == 0x06#8)

/-- N(OPC): how many operand words follow a header with this opcode (R48; 0 for an illegal one, R49). -/
def operandCount (opc : BitVec 8) : Nat :=
  match opc.toNat with
  | 6 => 5
  | 7 => 3
  | 8 => 2
  | _ => 0

/-- R47 to R50: the command at the front of a list of words, and the words after it. -/
def decodeCommand : List Word → Except DecodeError (Instr × List Word)
  | [] => .error .incomplete
  | h :: ops =>
    if headerLegal h then
      match (headerOpc h).toNat, ops with
      | 1, rest => .ok (.activate, rest)
      | 2, rest => .ok (.deactivate, rest)
      | 3, rest => .ok (.configureClock, rest)
      | 4, rest => .ok (.activatePins, rest)
      | 5, rest => .ok (.deactivatePins, rest)
      | 6, ch :: setup :: strobe :: hold :: pace :: rest =>
        .ok (.setTiming (headerDir h) ch setup strobe hold pace, rest)
      | 7, ch :: addr :: data :: rest => .ok (.writeByte ch addr data, rest)
      | 8, ch :: addr :: rest => .ok (.readByte ch addr, rest)
      | _, _ => .error .incomplete
    else .error .illegalCommand

/-! ### Bus requests -/

/-- Descriptor bits 4:0, IDX (R59). -/
def descIdx (d : BitVec 9) : BitVec 5 := d.extractLsb' 0 5

/-- Descriptor bits 7:5, TGT: 0 SMI, 1 CM, 2 GPIO, 3..7 reserved (R59). -/
def descTgt (d : BitVec 9) : BitVec 3 := d.extractLsb' 5 3

/-- Descriptor bit 8, W (R59). -/
def descWrites (d : BitVec 9) : Bool := d.getLsbD 8

/-- The descriptor of register index `idx` of target `tgt` (R59). -/
def mkDesc (writes : Bool) (tgt : BitVec 3) (idx : BitVec 5) : BitVec 9 := (BitVec.ofBool writes ++ tgt) ++ idx

/-- R59, R60 and the BUS rows of the opcode table. -/
def decodeBus (r : BusReq) : Except DecodeError Instr :=
  match (descTgt r.desc).toNat, descWrites r.desc, (descIdx r.desc).toNat with
  | 0, false, 0 => .ok .rdCs
  | 0, true, 0 => .ok (.wrCs r.data)
  | 0, false, 4 => .ok .rdDsr0
  | 0, true, 4 => .ok (.wrDsr0 r.data)
  | 0, false, 5 => .ok .rdDsw0
  | 0, true, 5 => .ok (.wrDsw0 r.data)
  | 0, false, 6 => .ok .rdDsr1
  | 0, true, 6 => .ok (.wrDsr1 r.data)
  | 0, false, 7 => .ok .rdDsw1
  | 0, true, 7 => .ok (.wrDsw1 r.data)
  | 0, false, 8 => .ok .rdDsr2
  | 0, true, 8 => .ok (.wrDsr2 r.data)
  | 0, false, 9 => .ok .rdDsw2
  | 0, true, 9 => .ok (.wrDsw2 r.data)
  | 0, false, 10 => .ok .rdDsr3
  | 0, true, 10 => .ok (.wrDsr3 r.data)
  | 0, false, 11 => .ok .rdDsw3
  | 0, true, 11 => .ok (.wrDsw3 r.data)
  | 0, false, 13 => .ok .rdDcs
  | 0, true, 13 => .ok (.wrDcs r.data)
  | 0, false, 14 => .ok .rdDa
  | 0, true, 14 => .ok (.wrDa r.data)
  | 0, false, 15 => .ok .rdDd
  | 0, true, 15 => .ok (.wrDd r.data)
  | 1, false, 0 => .ok .rdCmCtl
  | 1, true, 0 => .ok (.wrCmCtl r.data)
  | 1, false, 1 => .ok .rdCmDiv
  | 1, true, 1 => .ok (.wrCmDiv r.data)
  | 2, true, _ => if pinInSet (descIdx r.desc) then .ok (.fselGpio (descIdx r.desc) r.data) else .error .unlisted
  | _, _, _ => .error .unlisted

/-- The decoder over both formats. A bus request leaves no words over. -/
def decode : Packet → Except DecodeError (Instr × List Word)
  | .command ws => decodeCommand ws
  | .bus r =>
    match decodeBus r with
    | .ok i => .ok (i, [])
    | .error e => .error e

/-! ### The encoder -/

/-- The header word of a command (R47, R48). -/
def header (opc : BitVec 8) (d : Dir) : Word :=
  0#23 ++ (match d with | .read => 0#1 | .write => 1#1) ++ opc

/-- R48 and the opcode table: the words of a command, or the descriptor and data word of a bus transaction. A read
carries no data word; 0 stands beside its descriptor. -/
def encode : Instr → Packet
  | .activate => .command [header 0x01 .read]
  | .deactivate => .command [header 0x02 .read]
  | .configureClock => .command [header 0x03 .read]
  | .activatePins => .command [header 0x04 .read]
  | .deactivatePins => .command [header 0x05 .read]
  | .setTiming d ch setup strobe hold pace => .command [header 0x06 d, ch, setup, strobe, hold, pace]
  | .writeByte ch addr data => .command [header 0x07 .read, ch, addr, data]
  | .readByte ch addr => .command [header 0x08 .read, ch, addr]
  | .rdCs => .bus ⟨0x000, 0⟩
  | .wrCs v => .bus ⟨0x100, v⟩
  | .rdDsr0 => .bus ⟨0x004, 0⟩
  | .wrDsr0 v => .bus ⟨0x104, v⟩
  | .rdDsw0 => .bus ⟨0x005, 0⟩
  | .wrDsw0 v => .bus ⟨0x105, v⟩
  | .rdDsr1 => .bus ⟨0x006, 0⟩
  | .wrDsr1 v => .bus ⟨0x106, v⟩
  | .rdDsw1 => .bus ⟨0x007, 0⟩
  | .wrDsw1 v => .bus ⟨0x107, v⟩
  | .rdDsr2 => .bus ⟨0x008, 0⟩
  | .wrDsr2 v => .bus ⟨0x108, v⟩
  | .rdDsw2 => .bus ⟨0x009, 0⟩
  | .wrDsw2 v => .bus ⟨0x109, v⟩
  | .rdDsr3 => .bus ⟨0x00A, 0⟩
  | .wrDsr3 v => .bus ⟨0x10A, v⟩
  | .rdDsw3 => .bus ⟨0x00B, 0⟩
  | .wrDsw3 v => .bus ⟨0x10B, v⟩
  | .rdDcs => .bus ⟨0x00D, 0⟩
  | .wrDcs v => .bus ⟨0x10D, v⟩
  | .rdDa => .bus ⟨0x00E, 0⟩
  | .wrDa v => .bus ⟨0x10E, v⟩
  | .rdDd => .bus ⟨0x00F, 0⟩
  | .wrDd v => .bus ⟨0x10F, v⟩
  | .rdCmCtl => .bus ⟨0x020, 0⟩
  | .wrCmCtl v => .bus ⟨0x120, v⟩
  | .rdCmDiv => .bus ⟨0x021, 0⟩
  | .wrCmDiv v => .bus ⟨0x121, v⟩
  | .fselGpio p v => .bus ⟨0x140 ||| p.setWidth 9, v⟩

/-! ### The opcode table's numbering -/

/-- The 32-bit words of a number, the first word its low bits, as many as the longest command has (six, R48). -/
def wordsOf (w : Nat) : List Word :=
  [BitVec.ofNat 32 w, BitVec.ofNat 32 (w >>> 32), BitVec.ofNat 32 (w >>> 64), BitVec.ofNat 32 (w >>> 96),
    BitVec.ofNat 32 (w >>> 128), BitVec.ofNat 32 (w >>> 160)]

/-- What the decoder reads from a row's word. A BUS row has 9 bits, so at most 16 in whole bytes; a CMD row has 32
(DESIGN CHOICE, log 23; exact: the two formats have no common port). -/
def decodeTableWord (nbits w : Nat) : Option Instr :=
  if nbits ≤ 16 then
    if w < 512 then
      match decodeBus ⟨BitVec.ofNat 9 w, 0⟩ with
      | .ok i => some i
      | .error _ => none
    else none
  else
    match decodeCommand (wordsOf w) with
    | .ok (i, _) => some i
    | .error _ => none

end Sys2Proof
end

