-- ==== Sys2Proof/Config.lean ====
section
/-! DEFINITION. What an implementation fixes (the parameters R6 and R155 call arguments of the model) and the free
values (`draw_N`, R9): opaque constants, of which nothing can be proved. -/

namespace Sys2Proof

/-- What answers a read transfer (R98, 40_register_block.md). -/
inductive Device where
  /-- the general model: an unconstrained draw at each call -/
  | oracle
  /-- the test configuration "a loopback/mock peripheral that reflects writes" -/
  | loopback
deriving DecidableEq, Repr, Inhabited

/-- The OPEN parameters of R6 (00_scope.md) and of 92_eei_decisions.md. They are arguments of the model, so State carries
them and no step writes them (DESIGN CHOICE, log 2; safe: a statement about every state holds for every setting). -/
structure Params where
  defaultSetup  : Word
  defaultStrobe : Word
  defaultHold   : Word
  defaultPace   : Word
  /-- `POLL_LIMIT`: `none` is the source's unbounded poll, `some n` bounds the DCS reads of a poll loop (R120, D22) -/
  pollLimit     : Option Nat
  /-- `STRICT_CHANNEL`: false is the source's silent guard (R108, R114, D23) -/
  strictChannel : Bool
  /-- `BUS_RESPONDS`: whether the engine's completion is weakly fair (R97, D31) -/
  busResponds   : Bool
  device        : Device
  /-- the base addresses, supplied from outside; "No rule reads them" (R39) -/
  smiBase       : Word
  cmBase        : Word
  gpioBase      : Word
deriving DecidableEq, Repr, Inhabited

/-- The parameters of the machine at hand: open (R6 "OPEN: the model takes it as an argument"). -/
opaque Config.params : Params

/-- `draw_N()`: an unconstrained N-bit value, chosen freshly at each use (R9). The second argument is a counter in State
that every use advances (log 3; safe). -/
opaque Config.draw (width count : Nat) : BitVec width

/-- `DevRead(ch, addr)` in the general model: an unconstrained draw at each call (R98; log 15; safe). -/
opaque Config.devRead (count : Nat) (ch : BitVec 2) (addr : BitVec 6) : Byte

/-- `MAP_OK`: "a draw at each ACTIVATE" (R6, R133, D27), where State gives no outcome (log 17; safe). -/
def Config.mapOk (count : Nat) : Bool := Config.draw 1 count == 1#1

end Sys2Proof
end

