-- ==== Sys2Proof/Machine/State.lean ====
section
/-! DEFINITION. Every piece of state the spec gives the block (10_state.md), as plain data, and its reset (R152). -/

namespace Sys2Proof.Machine

/-! ### The controller's types -/

/-- The handle state (R13). -/
inductive HState where
  | unmapped
  | active
  | failed
deriving DecidableEq, Repr

/-- The controller's program counter, its phase (R15). -/
inductive Phase where
  | idle
  | clkDisable | clkDivide | clkEnable
  | pinSet
  | timRead | timWrite
  | xfCheck | xfClearStale | xfAddr | xfData | xfTrigger | xfPoll | xfCapture | xfClearDone
  | actSlotInit | actSlotRead | actSlotWrite
  | deactRelease
  | respond
deriving DecidableEq, Repr

/-- Response statuses (R17, R137). -/
inductive Status where
  | ok
  | unavailable
  | timeout
  | invalidArgument
deriving DecidableEq, Repr

/-- What the command port returns (R17). -/
structure Response where
  status : Status
  value  : Word
deriving DecidableEq, Repr

/-- The fault reasons (R138). A fault is a NEXT state that carries the record (`FaultRecord`); a later step in which the
stopped controller would have to move answers `Outcome.fault` with the same reason (log 7). All are safe: the spec's own
"Errs" column says "toward unprovable". -/
inductive Fault where
  /-- F_UNAVAILABLE, raised at admission (R135): a command other than ACTIVATE while `hstate ≠ ACTIVE`; safe -/
  | unavailable
  /-- F_UNPAIRED, raised at admission (R135): ACTIVATE while `hstate = ACTIVE`; safe -/
  | unpaired
  /-- F_OVERLAP, raised at admission (R135, R136): a command while another is in progress; and at a harness's bus request
  while one is (R44, R149; log 9); safe -/
  | overlap
  /-- F_START_WHILE_PENDING, raised by a DCS write (R84): START while a transfer is in flight; safe -/
  | startWhilePending
  /-- F_CLK_WHILE_RUNNING, raised by a CTL or DIV write (R93, R94): the clock reprogrammed while it runs; safe -/
  | clkWhileRunning
  /-- F_BUS_UNLISTED, raised by a bus request (R95, R96): an index, target or pin not in the map; safe -/
  | busUnlisted
deriving DecidableEq, Repr

/-- The refusal reasons (R139). A refusal is a NEXT state with the sticky mark; only `notModelled` is ever the answer of
`exec` itself. All are safe: "the model gives no meaning to what was asked". -/
inductive Refusal where
  /-- X_ILLEGAL_COMMAND, by admission (R135, R50): a header outside the opcode map; safe -/
  | illegalCommand
  /-- X_WIDTH, by a DCS write (R86): a transfer through a slot whose width is not 8-bit; safe -/
  | width
  /-- X_CS_ACCESS, by any access to CS (R65, R66); safe -/
  | csAccess
  /-- X_UNMODELLED_READ, by a read of CTL or DIV (R91, R92); safe -/
  | unmodelledRead
  /-- raised by an arm of `exec` that has no meaning yet; safe; no arm is left so -/
  | notModelled (mnemonic : String)
deriving DecidableEq, Repr

/-- What a fault records: "its reason together with the phase and, for a bus fault, the descriptor and data word of the
faulting transaction" (R138). A read carries no data word. -/
structure FaultRecord where
  reason : Fault
  phase  : Phase
  bus    : Option (BitVec 9 × Option Word)
deriving DecidableEq, Repr

/-- The datapath latches (R14). -/
structure Latches where
  opc   : BitVec 8
  dir   : Dir
  op0   : Word
  op1   : Word
  op2   : Word
  op3   : Word
  op4   : Word
  tmp   : Word
  rdata : Byte
  stale : Bool
  polls : Word
  k     : BitVec 4
  fsel  : BitVec 3
deriving DecidableEq, Repr

/-! ### The register blocks' types -/

/-- The stored bits of DCS (R23): ENABLE, DONE, WRITE. START is not stored. -/
structure Dcs where
  enable : Bool
  done   : Bool
  write  : Bool
deriving DecidableEq, Repr

/-- A transfer in flight (R26). -/
structure Xfer where
  ch    : BitVec 2
  addr  : BitVec 6
  dir   : Dir
  wbyte : Byte
  slot  : Word
deriving DecidableEq, Repr

/-- The four fields the clock generator keeps (R27). -/
structure ClockGen where
  enab : Bool
  src  : BitVec 4
  divi : BitVec 12
  divf : BitVec 12
deriving DecidableEq, Repr

/-! ### The event history -/

/-- One entry of the event history (R10): a bus transaction or GPIO request, or a completion by the engine. A transaction
that was refused or that faulted is recorded with its reason (R142). -/
inductive Event where
  /-- `RD … -> v` -/
  | read (desc : BitVec 9) (value : Word)
  /-- `WR … <- v` and `FSEL GPIO[p] <- f` -/
  | write (desc : BitVec 9) (value : Word)
  | refused (desc : BitVec 9) (data : Option Word) (reason : Refusal)
  | faulted (desc : BitVec 9) (data : Option Word) (reason : Fault)
  /-- `DEV ch=c addr=a dir=r|w byte=b`, with the `driven` mark of R97 -/
  | device (ch : BitVec 2) (addr : BitVec 6) (dir : Dir) (byte : Byte) (driven : Bool)
deriving DecidableEq, Repr

/-! ### Who moves next -/

/-- One entry of the schedule: which agent moves (R5; log 1). -/
inductive Turn where
  /-- the host presents the command at the front of the command port (R135) -/
  | host
  /-- a test harness drives one bus request, which only a controller in IDLE leaves it room for (R60, R65, R149; log 9) -/
  | bus (req : BusReq)
  /-- the controller takes its next phase (R15) -/
  | controller
  /-- the SMI engine completes the pending transfer, if it is enabled (R97) -/
  | engine
deriving DecidableEq, Repr

/-! ### The state -/

/-- The whole machine. -/
structure State where
  /-- the model's arguments (R6, R155); no step writes them (log 2) -/
  cfg      : Params
  /-- R15 -/
  pc       : Phase
  /-- R13 -/
  hstate   : HState
  /-- R14 -/
  x        : Latches
  /-- R16, R138 -/
  fault    : Option FaultRecord
  /-- R16, R139 -/
  refused  : Bool
  /-- the reason of the latest refusal, which `refuse(X)` records (R9, R139; log 8) -/
  refusal  : Option Refusal
  /-- R17 -/
  response : Option Response
  /-- R19; every access is refused (R65, R66) -/
  cs       : Word
  /-- R20, R22, R31: slot k = 2*ch + dir -/
  slot     : Vector Word 8
  /-- R23, R30 -/
  dcs      : Dcs
  /-- R24 -/
  da       : Word
  /-- R25 -/
  dd       : Word
  /-- R26 -/
  pending  : Option Xfer
  /-- R27 -/
  clk      : ClockGen
  /-- R29: pin p of the pin set -/
  fsel     : Vector (BitVec 3) 16
  /-- R10, R34: oldest first -/
  history  : List Event
  /-- how many free values have been drawn (R9; log 3) -/
  draws    : Nat
  /-- the words of the commands the host has still to present (R47, R135; log 5) -/
  port     : List Word
  /-- which agents move, next first (R5; log 1) -/
  schedule : List Turn
  /-- the outcomes of the mappings to come, next first: MAP_OK at each ACTIVATE (R6, R133, D27; log 17) -/
  maps     : List Bool
deriving DecidableEq, Repr

/-- The block right after reset (R152). "Any value" is drawn once: the free values `Config.draw _ 0 .. 63` (log 4). -/
def State.reset : State where
  cfg := Config.params
  pc := .idle
  hstate := .unmapped
  x := {
    opc := Config.draw 8 0
    dir := if Config.draw 1 1 = 1#1 then .write else .read
    op0 := Config.draw 32 2
    op1 := Config.draw 32 3
    op2 := Config.draw 32 4
    op3 := Config.draw 32 5
    op4 := Config.draw 32 6
    tmp := Config.draw 32 7
    rdata := Config.draw 8 8
    stale := Config.draw 1 9 == 1#1
    polls := 0
    k := Config.draw 4 10
    fsel := Config.draw 3 11 }
  fault := none
  refused := false
  refusal := none
  response := none
  cs := Config.draw 32 12
  slot := #v[Config.draw 32 13, Config.draw 32 14, Config.draw 32 15, Config.draw 32 16,
    Config.draw 32 17, Config.draw 32 18, Config.draw 32 19, Config.draw 32 20]
  dcs := {
    enable := Config.draw 1 21 == 1#1
    done := Config.draw 1 22 == 1#1
    write := Config.draw 1 23 == 1#1 }
  da := Config.draw 32 24
  dd := Config.draw 32 25
  pending := none
  clk := {
    enab := Config.draw 1 26 == 1#1
    src := Config.draw 4 27
    divi := Config.draw 12 28
    divf := Config.draw 12 29 }
  fsel := #v[Config.draw 3 30, Config.draw 3 31, Config.draw 3 32, Config.draw 3 33, Config.draw 3 34,
    Config.draw 3 35, Config.draw 3 36, Config.draw 3 37, Config.draw 3 38, Config.draw 3 39, Config.draw 3 40,
    Config.draw 3 41, Config.draw 3 42, Config.draw 3 43, Config.draw 3 44, Config.draw 3 45]
  history := []
  draws := 64
  port := []
  schedule := []
  maps := []

end Sys2Proof.Machine
end

