-- ==== Sys2Proof/Machine/Operands.lean ====
section
/-! DEFINITION. Operand assembly and the register words (30_encoding.md section 2, R6, R21, R24, R27): the channel guard,
the slot number, the timing counts, the direct-address and direct-data words, the DCS, clock and GPIO codes. -/

namespace Sys2Proof.Machine

/-! ### The channel operand -/

/-- R51: the whole operand word is compared, unsigned, with 3. -/
def channelOut (ch : Word) : Bool := decide (3#32 < ch)

/-- R51: otherwise `ch[1:0]` is the channel. -/
def channelOf (ch : Word) : BitVec 2 := ch.extractLsb' 0 2

/-- The code of a direction: read 0, write 1 (R6 `NDIR`). -/
def dirCode : Dir → Nat
  | .read => 0
  | .write => 1

theorem slot_number_lt (ch : BitVec 2) (d : Dir) : 2 * ch.toNat + dirCode d < 8 := by
  have h := ch.isLt
  cases d <;> simp only [dirCode] <;> omega

/-- R20: slot number `k = 2*ch + dir`. -/
def slotNumber (ch : BitVec 2) (d : Dir) : Fin 8 := ⟨2 * ch.toNat + dirCode d, slot_number_lt ch d⟩

/-- `SLOT_INDEX(ch, dir) = 4 + 2*ch + dir` (R6, R20). -/
def slotIndex (ch : BitVec 2) (d : Dir) : BitVec 5 := BitVec.ofNat 5 (4 + (slotNumber ch d).val)

/-! ### Timing-slot words -/

/-- `TIMING_MASK` (R6): the four count fields. -/
def timingMask : Word := 0x3F3F7F7F

/-- Field WIDTH, bits 31:30 (R21). -/
def slotWidth (w : Word) : BitVec 2 := w.extractLsb' 30 2
/-- Field SETUP, bits 29:24 (R21). -/
def slotSetup (w : Word) : BitVec 6 := w.extractLsb' 24 6
/-- Field MODE, bit 23 (R21). -/
def slotMode (w : Word) : Bool := w.getLsbD 23
/-- Field HOLD, bits 21:16 (R21). -/
def slotHold (w : Word) : BitVec 6 := w.extractLsb' 16 6
/-- Field PACEALL, bit 15 (R21). -/
def slotPaceAll (w : Word) : Bool := w.getLsbD 15
/-- Field PACE, bits 14:8 (R21). -/
def slotPace (w : Word) : BitVec 7 := w.extractLsb' 8 7
/-- Field STROBE, bits 6:0 (R21). -/
def slotStrobe (w : Word) : BitVec 7 := w.extractLsb' 0 7

/-- `WIDTH8_CODE` (R6, D32). -/
def width8Code : BitVec 2 := 0

/-- `INIT_SLOT_WORD` (R6, D17). -/
def initSlotWord : Word := 0

/-- R52: each count is reduced modulo its field's width and then shifted into its field. -/
def countsWord (setup strobe hold pace : Word) : Word :=
  ((setup.setWidth 6).setWidth 32 <<< 24) ||| ((hold.setWidth 6).setWidth 32 <<< 16)
    ||| ((pace.setWidth 7).setWidth 32 <<< 8) ||| (strobe.setWidth 7).setWidth 32

/-- R53: `new = (old & ~TIMING_MASK) | counts`. -/
def slotWord (old counts : Word) : Word := (old &&& ~~~timingMask) ||| counts

/-- The default counts of activation (R132). -/
def defaultCounts (c : Params) : Word :=
  countsWord c.defaultSetup c.defaultStrobe c.defaultHold c.defaultPace

/-! ### Direct-transfer words -/

/-- Field DEV of DA, bits 9:8 (R24). -/
def daDev (da : Word) : BitVec 2 := da.extractLsb' 8 2
/-- Field ADDR of DA, bits 5:0 (R24). -/
def daAddr (da : Word) : BitVec 6 := da.extractLsb' 0 6
/-- `DD_DATA`, bits 7:0 of DD (R25). -/
def ddByte (dd : Word) : Byte := dd.extractLsb' 0 8

/-- R54: `(zext_32(ch[1:0]) << DEV_SHIFT) | (addr & ADDRESS_MASK)`. -/
def daWord (ch addr : Word) : Word := ((channelOf ch).setWidth 32 <<< 8) ||| (addr &&& 0x3F#32)

/-- R55: `zext_32(data[7:0])`. -/
def ddWord (data : Word) : Word := (data.extractLsb' 0 8).setWidth 32

/-- R56: ENABLE and START, and WRITE for a write: 0x3 or 0xB. -/
def triggerWord : Dir → Word
  | .read => 0x00000003
  | .write => 0x0000000B

/-- `DONE_BIT` (R6, R56). -/
def doneBit : Word := 0x00000004

/-! ### Clock-manager words -/

/-- `CM_PASSWD` (R6, D10). -/
def cmPasswd : BitVec 8 := 0x5A
/-- `SMI_CLK_SRC` (R6): the PLL source. -/
def smiClkSrc : BitVec 4 := 6
/-- `SMI_CLK_DIVI` = `F_PLL / F_SMI` (R6). -/
def smiClkDivi : BitVec 12 := 4
/-- `SMI_CLK_DIVF` (R6). -/
def smiClkDivf : BitVec 12 := 0

/-- PASSWD, bits 31:24 of a clock-manager write (R27). -/
def cmPassword (v : Word) : BitVec 8 := v.extractLsb' 24 8

/-- R57, CTL disable: `CM_PASSWD << 24`. -/
def ctlDisableWord : Word := cmPasswd.setWidth 32 <<< 24
/-- R57, DIV set. -/
def divSetWord : Word := (cmPasswd.setWidth 32 <<< 24) ||| (smiClkDivi.setWidth 32 <<< 12) ||| smiClkDivf.setWidth 32
/-- R57, CTL enable. -/
def ctlEnableWord : Word := (cmPasswd.setWidth 32 <<< 24) ||| (1#32 <<< 4) ||| smiClkSrc.setWidth 32

/-! ### GPIO codes and codes of the reasons -/

/-- `FSEL_SMI` (R6, R58): alternate function 1. -/
def fselSmi : BitVec 3 := 0b101
/-- `FSEL_INPUT` (R6, R58): plain input. -/
def fselInput : BitVec 3 := 0b000
/-- The function code in the data word's bits 2:0 (R95). -/
def fselCode (v : Word) : BitVec 3 := v.extractLsb' 0 3

/-- R17, R137. -/
def Status.code : Status → Nat
  | .ok => 0
  | .unavailable => 1
  | .timeout => 2
  | .invalidArgument => 3

/-- R138. -/
def Fault.code : Fault → Nat
  | .unavailable => 1
  | .unpaired => 2
  | .overlap => 3
  | .startWhilePending => 4
  | .clkWhileRunning => 5
  | .busUnlisted => 6

/-- R139 (a reason that is none of the four has no code). -/
def Refusal.code : Refusal → Nat
  | .illegalCommand => 1
  | .width => 2
  | .csAccess => 3
  | .unmodelledRead => 4
  | _ => 0

/-! ### Opcodes and descriptors -/

/-- R48. -/
def opcActivate : BitVec 8 := 0x01
def opcDeactivate : BitVec 8 := 0x02
def opcConfigureClock : BitVec 8 := 0x03
def opcActivatePins : BitVec 8 := 0x04
def opcDeactivatePins : BitVec 8 := 0x05
def opcSetTiming : BitVec 8 := 0x06
def opcWriteByte : BitVec 8 := 0x07
def opcReadByte : BitVec 8 := 0x08

/-- `MemRead(SMI:i, 4)` as a request (R9, R59). -/
def smiRead (idx : BitVec 5) : BusReq := ⟨mkDesc false 0 idx, 0⟩
/-- `MemWrite(SMI:i, 4, v)` (R9, R59). -/
def smiWrite (idx : BitVec 5) (v : Word) : BusReq := ⟨mkDesc true 0 idx, v⟩
/-- `MemWrite(CM:CTL, 4, v)` (R9, R59). -/
def ctlWrite (v : Word) : BusReq := ⟨mkDesc true 1 0, v⟩
/-- `MemWrite(CM:DIV, 4, v)` (R9, R59). -/
def divWrite (v : Word) : BusReq := ⟨mkDesc true 1 1, v⟩
/-- `GpioSetFunction(p, f)`: "the same event as `MemWrite(GPIO:p, 4, zext_32(f))`" (R9). -/
def gpioSet (p : BitVec 5) (f : BitVec 3) : BusReq := ⟨mkDesc true 2 p, f.setWidth 32⟩

/-- `IDX_DCS`, `IDX_DA`, `IDX_DD` (R6, R18). -/
def idxDcs : BitVec 5 := 13
def idxDa : BitVec 5 := 14
def idxDd : BitVec 5 := 15

end Sys2Proof.Machine
end

