-- ==== Sys2Proof/Machine/Flags.lean ====
section
/-! DEFINITION. The block's flags, the DCS bits (R23, R30), and the clock's derived `clockOK` (R28). -/

namespace Sys2Proof.Machine

/-- R83: what a DCS read returns; START and bits 31:4 are drawn. -/
def dcsReadWord (d : Dcs) (start : BitVec 1) (high : BitVec 28) : Word :=
  high ++ (BitVec.ofBool d.write ++ (BitVec.ofBool d.done ++ (start ++ BitVec.ofBool d.enable)))

/-- `r[DCS_DONE]`, bit 2 (R6). -/
def dcsDone (r : Word) : Bool := r.getLsbD 2

/-- `v[DCS_START]`, bit 1 (R6). -/
def dcsStarts (v : Word) : Bool := v.getLsbD 1

/-- R84, what a DCS write stores: DONE is write-1-to-clear, ENABLE and WRITE are stored. -/
def dcsStore (v : Word) (d : Dcs) : Dcs where
  enable := v.getLsbD 0
  done := d.done && !v.getLsbD 2
  write := v.getLsbD 3

/-- The direction that the stored WRITE bit selects (R23, R84). -/
def dcsDir (d : Dcs) : Dir := if d.write then .write else .read

/-- R28. -/
def ClockGen.ok (c : ClockGen) : Bool :=
  c.enab && (c.src == smiClkSrc) && (c.divi == smiClkDivi) && (c.divf == smiClkDivf)

/-- R28: `clockOK`. -/
def State.clockOK (s : State) : Bool := s.clk.ok

/-- R97 `driven`: every pin of the pin set is in the SMI function. -/
def State.driven (s : State) : Bool := s.fsel.toList.all (· == fselSmi)

/-- R97: completion is enabled when a transfer is pending and `clockOK`. -/
def State.engineEnabled (s : State) : Bool := s.pending.isSome && s.clockOK

/-- R120: `min(x[polls] + 1, 0xFFFFFFFF)`. -/
def pollsNext (p : Word) : Word := if p = 0xFFFFFFFF#32 then p else p + 1

end Sys2Proof.Machine
end

