-- ==== Sys2Proof/Machine/Ops.lean ====
section
/-! DEFINITION. The named operations over the state: one update per field, the event history (R10), taking a fault
(R138, R142), a refusal (R139), the response (R17), the admission of a command (R135), and a bus transaction's record. -/

namespace Sys2Proof.Machine

/-! ### One update per field -/

def State.setPc (s : State) (p : Phase) : State := { s with pc := p }
def State.setHstate (s : State) (h : HState) : State := { s with hstate := h }
def State.setX (s : State) (x : Latches) : State := { s with x := x }
def State.setFault (s : State) (f : FaultRecord) : State := { s with fault := some f }
def State.setResponse (s : State) (r : Option Response) : State := { s with response := r }
def State.setSlot (s : State) (k : Fin 8) (v : Word) : State := { s with slot := s.slot.set k v }
def State.setDcs (s : State) (d : Dcs) : State := { s with dcs := d }
def State.setDa (s : State) (v : Word) : State := { s with da := v }
def State.setDd (s : State) (v : Word) : State := { s with dd := v }
def State.setPending (s : State) (p : Option Xfer) : State := { s with pending := p }
def State.setClk (s : State) (c : ClockGen) : State := { s with clk := c }
def State.setFsel (s : State) (p : Fin 16) (f : BitVec 3) : State := { s with fsel := s.fsel.set p f }
def State.setPort (s : State) (ws : List Word) : State := { s with port := ws }
def State.setSchedule (s : State) (ts : List Turn) : State := { s with schedule := ts }
def State.setMaps (s : State) (bs : List Bool) : State := { s with maps := bs }

/-- R10: an event is appended, in the order issued. -/
def State.log (s : State) (e : Event) : State := { s with history := s.history ++ [e] }

/-- R9 `draw_N`: the next free value is a fresh one. -/
def State.nextDraw (s : State) : State := { s with draws := s.draws + 1 }

/-- R9 `refuse(X)`, R139: the sticky mark, with the reason (log 8). -/
def State.markRefused (s : State) (x : Refusal) : State := { s with refused := true, refusal := some x }

/-! ### Taking a fault, and the response -/

/-- The data word beside a descriptor; a read carries none (R59, log 10). -/
def busData (r : BusReq) : Option Word := if descWrites r.desc then some r.data else none

/-- R9 `raise Fault(F)`, R138, R142: the state before the faulting step plus the fault mark, which records the reason, the
phase and, for a bus fault, the descriptor and data word; the faulting transaction is recorded in the history. There is no
vector, no saved pc and no return from it (R141, R143). -/
def State.takeFault (s : State) (f : Fault) (bus : Option BusReq) : State :=
  match bus with
  | none => s.setFault ⟨f, s.pc, none⟩
  | some r => (s.setFault ⟨f, s.pc, some (r.desc, busData r)⟩).log (.faulted r.desc (busData r) f)

/-- R9 `respond(status, value)` followed by `pc <- IDLE`, as every rule has it. -/
def State.respond (s : State) (st : Status) (v : Word) : State := (s.setResponse (some ⟨st, v⟩)).setPc .idle

/-- R142: after a fault "the controller takes no further step", so a step of it stops with the recorded reason (log 7). -/
def whileRunning (s : State) (t : State) : Host.Outcome State Fault Refusal :=
  match s.fault with
  | some f => .fault f.reason
  | none => .next t

/-! ### The admission of a command -/

/-- R135 checks 1 and 3 for ACTIVATE, then its accept step. The old response ends here (R17, log 12). -/
def admitActivate (accept : State → State) (s : State) : State :=
  if s.pc ≠ .idle then s.takeFault .overlap none
  else if s.hstate = .active then s.takeFault .unpaired none
  else accept (s.setResponse none)

/-- R135 checks 1 and 3 for every other command, then its accept step. -/
def admitCommand (accept : State → State) (s : State) : State :=
  if s.pc ≠ .idle then s.takeFault .overlap none
  else if s.hstate ≠ .active then s.takeFault .unavailable none
  else accept (s.setResponse none)

/-- R135 checks 1 and 2 for an illegal header (R50): no bus transaction, the refused mark. -/
def admitIllegal (s : State) : State :=
  if s.pc ≠ .idle then s.takeFault .overlap none
  else s.markRefused .illegalCommand

/-- The status of the channel guard (R108, R114, R137). -/
def guardStatus (c : Params) : Status := if c.strictChannel then .invalidArgument else .ok

/-! ### A bus transaction -/

/-- What a register's rule does with one transaction (40_register_block.md). -/
inductive Effect where
  /-- it completes: the value a read returns (a write's own data word), and the state after -/
  | done (value : Word) (t : State)
  /-- it is refused, after what the rule writes before the refusal -/
  | refused (x : Refusal) (t : State)
  /-- it faults, with no effect (R142) -/
  | fault (f : Fault)

/-- The record of a completed transaction (R10, R64). -/
def busEvent (r : BusReq) (value : Word) : Event :=
  if descWrites r.desc then .write r.desc r.data else .read r.desc value

/-- One transaction, recorded: exactly one event whatever its outcome (R9, R10, R142). -/
def commit (r : BusReq) (s : State) : Effect → State
  | .done v t => t.log (busEvent r v)
  | .refused x t => (t.log (.refused r.desc (busData r) x)).markRefused x
  | .fault f => s.takeFault f (some r)

/-- A transaction that is not the controller's own: a row of the BUS format run by itself (R11, R60; log 9). -/
def driveBus (r : BusReq) (e : Effect) (s : State) : Host.Outcome State Fault Refusal :=
  whileRunning s (commit r s e)

end Sys2Proof.Machine
end

