-- ==== Sys2Proof/Machine/ClockManager.lean ====
section
/-! DEFINITION. The clock manager's transactions, CTL and DIV (40_register_block.md section 5, R91 to R94). -/

namespace Sys2Proof.Machine

/-- R91, R92: a read of CTL or DIV is refused. -/
def cmReadRefused (s : State) : Effect := .refused .unmodelledRead s

/-- R93: the password, then the source check, then SRC and ENAB. -/
def cmCtlWrite (v : Word) (s : State) : Effect :=
  if cmPassword v ≠ cmPasswd then .done v s
  else if s.clk.enab = true ∧ v.getLsbD 4 = true ∧ v.extractLsb' 0 4 ≠ s.clk.src then .fault .clkWhileRunning
  else .done v (s.setClk { s.clk with src := v.extractLsb' 0 4, enab := v.getLsbD 4 })

/-- R94: the password, then the running check, then DIVI and DIVF. -/
def cmDivWrite (v : Word) (s : State) : Effect :=
  if cmPassword v ≠ cmPasswd then .done v s
  else if s.clk.enab = true then .fault .clkWhileRunning
  else .done v (s.setClk { s.clk with divi := v.extractLsb' 12 12, divf := v.extractLsb' 0 12 })

/-- R91 -/
def execRdCmCtl (s : State) : Host.Outcome State Fault Refusal := driveBus ⟨0x020, 0⟩ (cmReadRefused s) s
/-- R93 -/
def execWrCmCtl (v : Word) (s : State) : Host.Outcome State Fault Refusal := driveBus ⟨0x120, v⟩ (cmCtlWrite v s) s
/-- R92 -/
def execRdCmDiv (s : State) : Host.Outcome State Fault Refusal := driveBus ⟨0x021, 0⟩ (cmReadRefused s) s
/-- R94 -/
def execWrCmDiv (v : Word) (s : State) : Host.Outcome State Fault Refusal := driveBus ⟨0x121, v⟩ (cmDivWrite v s) s

end Sys2Proof.Machine
end

