-- ==== Sys2Proof/Machine/Gpio.lean ====
section
/-! DEFINITION. The GPIO function-select request (40_register_block.md section 6, R95). -/

namespace Sys2Proof.Machine

/-- R95: a pin outside the set faults; otherwise `FSEL[p] <- f`, f the data word's bits 2:0 (log 11). -/
def gpioSelect (p : BitVec 5) (v : Word) (s : State) : Effect :=
  if h : p.toNat < 16 then .done v (s.setFsel ⟨p.toNat, h⟩ (fselCode v))
  else .fault .busUnlisted

/-- R95 -/
def execFselGpio (p : BitVec 5) (v : Word) (s : State) : Host.Outcome State Fault Refusal :=
  driveBus ⟨mkDesc true 2 p, v⟩ (gpioSelect p v s) s

end Sys2Proof.Machine
end

