-- ==== Sys2Proof/Machine/RegisterBlock.lean ====
section
/-! DEFINITION. The SMI register block's transactions: CS, the timing slots, DCS, DA and DD (40_register_block.md
sections 1 to 4). First what each register does, then one meaning per row of the opcode table. -/

namespace Sys2Proof.Machine

/-! ### What each register does -/

/-- R65, R66: any access to CS is refused. -/
def csAccess (s : State) : Effect := .refused .csAccess s

/-- R67 to R82, the reads: `return SLOT[k]`. -/
def slotRead (k : Fin 8) (s : State) : Effect := .done s.slot[k] s

/-- R67 to R82, the writes: `SLOT[k] <- v`. -/
def slotWrite (k : Fin 8) (v : Word) (s : State) : Effect := .done v (s.setSlot k v)

/-- R83: ENABLE, DONE and WRITE as stored; START and bits 31:4 drawn. -/
def dcsRead (s : State) : Effect :=
  .done (dcsReadWord s.dcs (Config.draw 1 s.draws) (Config.draw 28 s.draws)) s.nextDraw

/-- R84: the transfer that START takes, sampled from DA, DD and the slot at this write. -/
def startedXfer (s : State) (d : Dir) : Xfer where
  ch := daDev s.da
  addr := daAddr s.da
  dir := d
  wbyte := ddByte s.dd
  slot := s.slot[slotNumber (daDev s.da) d]

/-- R84 (with R85 and R86): the pending check first, then DONE, ENABLE and WRITE, then START. -/
def dcsWrite (v : Word) (s : State) : Effect :=
  if dcsStarts v && s.pending.isSome then .fault .startWhilePending
  else
    let d := dcsStore v s.dcs
    if dcsStarts v && d.enable then
      if slotWidth (startedXfer s (dcsDir d)).slot = width8Code then
        .done v ((s.setDcs d).setPending (some (startedXfer s (dcsDir d))))
      else .refused .width (s.setDcs d)
    else .done v (s.setDcs d)

/-- R87. -/
def daRead (s : State) : Effect := .done s.da s
/-- R88. -/
def daWrite (v : Word) (s : State) : Effect := .done v (s.setDa v)
/-- R89. -/
def ddRead (s : State) : Effect := .done s.dd s
/-- R90. -/
def ddWrite (v : Word) (s : State) : Effect := .done v (s.setDd v)

/-! ### The rows -/

/-- R65 -/
def execRdCs (s : State) : Host.Outcome State Fault Refusal := driveBus ⟨0x000, 0⟩ (csAccess s) s
/-- R66 -/
def execWrCs (v : Word) (s : State) : Host.Outcome State Fault Refusal := driveBus ⟨0x100, v⟩ (csAccess s) s
/-- R67 -/
def execRdDsr0 (s : State) : Host.Outcome State Fault Refusal := driveBus ⟨0x004, 0⟩ (slotRead 0 s) s
/-- R68 -/
def execWrDsr0 (v : Word) (s : State) : Host.Outcome State Fault Refusal := driveBus ⟨0x104, v⟩ (slotWrite 0 v s) s
/-- R69 -/
def execRdDsw0 (s : State) : Host.Outcome State Fault Refusal := driveBus ⟨0x005, 0⟩ (slotRead 1 s) s
/-- R70 -/
def execWrDsw0 (v : Word) (s : State) : Host.Outcome State Fault Refusal := driveBus ⟨0x105, v⟩ (slotWrite 1 v s) s
/-- R71 -/
def execRdDsr1 (s : State) : Host.Outcome State Fault Refusal := driveBus ⟨0x006, 0⟩ (slotRead 2 s) s
/-- R72 -/
def execWrDsr1 (v : Word) (s : State) : Host.Outcome State Fault Refusal := driveBus ⟨0x106, v⟩ (slotWrite 2 v s) s
/-- R73 -/
def execRdDsw1 (s : State) : Host.Outcome State Fault Refusal := driveBus ⟨0x007, 0⟩ (slotRead 3 s) s
/-- R74 -/
def execWrDsw1 (v : Word) (s : State) : Host.Outcome State Fault Refusal := driveBus ⟨0x107, v⟩ (slotWrite 3 v s) s
/-- R75 -/
def execRdDsr2 (s : State) : Host.Outcome State Fault Refusal := driveBus ⟨0x008, 0⟩ (slotRead 4 s) s
/-- R76 -/
def execWrDsr2 (v : Word) (s : State) : Host.Outcome State Fault Refusal := driveBus ⟨0x108, v⟩ (slotWrite 4 v s) s
/-- R77 -/
def execRdDsw2 (s : State) : Host.Outcome State Fault Refusal := driveBus ⟨0x009, 0⟩ (slotRead 5 s) s
/-- R78 -/
def execWrDsw2 (v : Word) (s : State) : Host.Outcome State Fault Refusal := driveBus ⟨0x109, v⟩ (slotWrite 5 v s) s
/-- R79 -/
def execRdDsr3 (s : State) : Host.Outcome State Fault Refusal := driveBus ⟨0x00A, 0⟩ (slotRead 6 s) s
/-- R80 -/
def execWrDsr3 (v : Word) (s : State) : Host.Outcome State Fault Refusal := driveBus ⟨0x10A, v⟩ (slotWrite 6 v s) s
/-- R81 -/
def execRdDsw3 (s : State) : Host.Outcome State Fault Refusal := driveBus ⟨0x00B, 0⟩ (slotRead 7 s) s
/-- R82 -/
def execWrDsw3 (v : Word) (s : State) : Host.Outcome State Fault Refusal := driveBus ⟨0x10B, v⟩ (slotWrite 7 v s) s
/-- R83 -/
def execRdDcs (s : State) : Host.Outcome State Fault Refusal := driveBus ⟨0x00D, 0⟩ (dcsRead s) s
/-- R84 -/
def execWrDcs (v : Word) (s : State) : Host.Outcome State Fault Refusal := driveBus ⟨0x10D, v⟩ (dcsWrite v s) s
/-- R87 -/
def execRdDa (s : State) : Host.Outcome State Fault Refusal := driveBus ⟨0x00E, 0⟩ (daRead s) s
/-- R88 -/
def execWrDa (v : Word) (s : State) : Host.Outcome State Fault Refusal := driveBus ⟨0x10E, v⟩ (daWrite v s) s
/-- R89 -/
def execRdDd (s : State) : Host.Outcome State Fault Refusal := driveBus ⟨0x00F, 0⟩ (ddRead s) s
/-- R90 -/
def execWrDd (v : Word) (s : State) : Host.Outcome State Fault Refusal := driveBus ⟨0x10F, v⟩ (ddWrite v s) s

end Sys2Proof.Machine
end

