-- ==== Sys2Proof/Machine/Bus.lean ====
section
/-! DEFINITION. The bus as the controller drives it: a request is decoded by its descriptor (R59), the row's register does
what its rule says, and the phase goes on from there (R9 `MemRead`, `MemWrite`, `GpioSetFunction`; R41). -/

namespace Sys2Proof.Machine

/-- What a row of the BUS format does. A command is no row of that format (R96). -/
def rowEffect (i : Instr) (s : State) : Effect :=
  match i with
  | .rdCs => csAccess s
  | .wrCs _ => csAccess s
  | .rdDsr0 => slotRead 0 s
  | .wrDsr0 v => slotWrite 0 v s
  | .rdDsw0 => slotRead 1 s
  | .wrDsw0 v => slotWrite 1 v s
  | .rdDsr1 => slotRead 2 s
  | .wrDsr1 v => slotWrite 2 v s
  | .rdDsw1 => slotRead 3 s
  | .wrDsw1 v => slotWrite 3 v s
  | .rdDsr2 => slotRead 4 s
  | .wrDsr2 v => slotWrite 4 v s
  | .rdDsw2 => slotRead 5 s
  | .wrDsw2 v => slotWrite 5 v s
  | .rdDsr3 => slotRead 6 s
  | .wrDsr3 v => slotWrite 6 v s
  | .rdDsw3 => slotRead 7 s
  | .wrDsw3 v => slotWrite 7 v s
  | .rdDcs => dcsRead s
  | .wrDcs v => dcsWrite v s
  | .rdDa => daRead s
  | .wrDa v => daWrite v s
  | .rdDd => ddRead s
  | .wrDd v => ddWrite v s
  | .rdCmCtl => cmReadRefused s
  | .wrCmCtl v => cmCtlWrite v s
  | .rdCmDiv => cmReadRefused s
  | .wrCmDiv v => cmDivWrite v s
  | .fselGpio p v => gpioSelect p v s
  | .activate | .deactivate | .configureClock | .activatePins | .deactivatePins => .fault .busUnlisted
  | .setTiming _ _ _ _ _ _ | .writeByte _ _ _ | .readByte _ _ => .fault .busUnlisted

/-- R59, R96: an unlisted descriptor faults. -/
def busEffect (r : BusReq) (s : State) : Effect :=
  match decodeBus r with
  | .ok i => rowEffect i s
  | .error _ => .fault .busUnlisted

/-- R142: whether the transaction faults, so that the phase does not go on. -/
def Effect.faults : Effect → Bool
  | .fault _ => true
  | .done _ _ => false
  | .refused _ _ => false

/-- A phase's write, then the rest of the phase. A faulting write ends the step with the fault mark and nothing else
(R142); after a refusal the controller keeps stepping (R139, log 18). -/
def issueWrite (r : BusReq) (after : State → State) (s : State) : State :=
  if (busEffect r s).faults then commit r s (busEffect r s) else after (commit r s (busEffect r s))

/-- A phase's read, then the rest of the phase with the value read. A refused read delivers no value and the phase stays
where it is; no phase issues one (log 19). -/
def issueRead (r : BusReq) (after : Word → State → State) (s : State) : State :=
  match busEffect r s with
  | .done v t => after v (commit r s (.done v t))
  | .refused x t => commit r s (.refused x t)
  | .fault f => commit r s (.fault f)

end Sys2Proof.Machine
end

