-- ==== Sys2Proof/Machine/PinMux.lean ====
section
/-! DEFINITION. The pin-function-select controller (42_pin_mux.md): ACTIVATE_PINS, DEACTIVATE_PINS and the phase of R104. -/

namespace Sys2Proof.Machine

/-- The accept step of a pin loop (R105, R106, R134): the loop starts at pin 0 with the code to write. -/
def startPinLoop (opc : BitVec 8) (f : BitVec 3) (s : State) : State :=
  (s.setX { s.x with opc := opc, k := 0, fsel := f }).setPc .pinSet

/-- R105 -/
def execActivatePins (s : State) : Host.Outcome State Fault Refusal :=
  whileRunning s (admitCommand (startPinLoop opcActivatePins fselSmi) s)

/-- R106 -/
def execDeactivatePins (s : State) : Host.Outcome State Fault Refusal :=
  whileRunning s (admitCommand (startPinLoop opcDeactivatePins fselInput) s)

/-- R104, where PIN_SET goes after its request. -/
def pinExit (s : State) : State :=
  if s.x.k.toNat < 15 then s.setX { s.x with k := s.x.k + 1 }
  else if s.x.opc = opcActivate then (s.setX { s.x with k := 0 }).setPc .actSlotInit
  else if s.x.opc = opcDeactivate then s.setPc .deactRelease
  else s.setPc .respond

/-- R104, PIN_SET: `GpioSetFunction(PIN_BASE + x[k], x[fsel])`, with `PIN_BASE` = 0. -/
def phasePinSet (s : State) : State := issueWrite (gpioSet (s.x.k.setWidth 5) s.x.fsel) pinExit s

end Sys2Proof.Machine
end

