-- ==== Sys2Proof/Machine/Activation.lean ====
section
/-! DEFINITION. Activation and deactivation (45_activation.md): ACTIVATE, DEACTIVATE, the slot set-up of R132 and
DEACT_RELEASE. -/

namespace Sys2Proof.Machine

/-- R133, D27: MAP_OK at this ACTIVATE, the next of the given outcomes, or a free value where none is given (log 17). -/
def mapOutcome (s : State) : Bool :=
  match s.maps with
  | b :: _ => b
  | [] => Config.mapOk s.draws

/-- R133: the accept step. The outcome is used up: the next ACTIVATE has its own. -/
def acceptActivate (s : State) : State :=
  let t := ((s.setX { s.x with opc := opcActivate }).setMaps s.maps.tail).nextDraw
  if mapOutcome s then (t.setHstate .active).setPc .clkDisable
  else (t.setHstate .failed).respond .unavailable 0

/-- R133 -/
def execActivate (s : State) : Host.Outcome State Fault Refusal :=
  whileRunning s (admitActivate acceptActivate s)

/-- R134 -/
def execDeactivate (s : State) : Host.Outcome State Fault Refusal :=
  whileRunning s (admitCommand (startPinLoop opcDeactivate fselInput) s)

/-- The index of the slot that the set-up visits: `4 + x[k]` (R132). -/
def setupIndex (s : State) : BitVec 5 := 4 + s.x.k.setWidth 5

/-- R132, ACT_SLOT_INIT. -/
def phaseActSlotInit (s : State) : State :=
  issueWrite (smiWrite (setupIndex s) initSlotWord) (·.setPc .actSlotRead) s

/-- R132, ACT_SLOT_READ. -/
def phaseActSlotRead (s : State) : State :=
  issueRead (smiRead (setupIndex s)) (fun v t => (t.setX { t.x with tmp := v }).setPc .actSlotWrite) s

/-- R132, where ACT_SLOT_WRITE goes after its write. -/
def setupExit (s : State) : State :=
  if s.x.k.toNat < 7 then (s.setX { s.x with k := s.x.k + 1 }).setPc .actSlotInit
  else s.setPc .respond

/-- R132, ACT_SLOT_WRITE. -/
def phaseActSlotWrite (s : State) : State :=
  issueWrite (smiWrite (setupIndex s) (slotWord s.x.tmp (defaultCounts s.cfg))) setupExit s

/-- R134, DEACT_RELEASE: no bus transaction. -/
def phaseDeactRelease (s : State) : State := (s.setHstate .unmapped).setPc .respond

end Sys2Proof.Machine
end

