-- ==== Sys2Proof/Machine/ClockSequencer.lean ====
section
/-! DEFINITION. The clock divider sequencer (41_clock_sequencer.md): CONFIGURE_CLOCK and the phases of R99. -/

namespace Sys2Proof.Machine

/-- R100: the accept step. -/
def acceptConfigureClock (s : State) : State :=
  (s.setX { s.x with opc := opcConfigureClock }).setPc .clkDisable

/-- R100 -/
def execConfigureClock (s : State) : Host.Outcome State Fault Refusal :=
  whileRunning s (admitCommand acceptConfigureClock s)

/-- R99, CLK_DISABLE. -/
def phaseClkDisable (s : State) : State := issueWrite (ctlWrite ctlDisableWord) (·.setPc .clkDivide) s

/-- R99, CLK_DIVIDE. -/
def phaseClkDivide (s : State) : State := issueWrite (divWrite divSetWord) (·.setPc .clkEnable) s

/-- R99, where CLK_ENABLE exits to. -/
def clkExit (s : State) : State :=
  if s.x.opc = opcActivate then (s.setX { s.x with k := 0, fsel := fselSmi }).setPc .pinSet
  else s.setPc .respond

/-- R99, CLK_ENABLE. -/
def phaseClkEnable (s : State) : State := issueWrite (ctlWrite ctlEnableWord) clkExit s

end Sys2Proof.Machine
end

