-- ==== Sys2Proof/Machine/Timing.lean ====
section
/-! DEFINITION. The timing-slot register encoder (43_timing_encoder.md): SET_TIMING and its phases (R108). -/

namespace Sys2Proof.Machine

/-- R108: the accept step. The guard touches no register. -/
def acceptSetTiming (dir : Dir) (ch setup strobe hold pace : Word) (s : State) : State :=
  let t := s.setX { s.x with opc := opcSetTiming, dir := dir, op0 := ch, op1 := setup, op2 := strobe, op3 := hold, op4 := pace }
  if channelOut ch then t.respond (guardStatus t.cfg) 0 else t.setPc .timRead

/-- R108 -/
def execSetTiming (dir : Dir) (ch setup strobe hold pace : Word) (s : State) : Host.Outcome State Fault Refusal :=
  whileRunning s (admitCommand (acceptSetTiming dir ch setup strobe hold pace) s)

/-- The index of the slot that SET_TIMING works on (R108). -/
def timingIndex (s : State) : BitVec 5 := slotIndex (channelOf s.x.op0) s.x.dir

/-- R108, TIM_READ. -/
def phaseTimRead (s : State) : State :=
  issueRead (smiRead (timingIndex s)) (fun v t => (t.setX { t.x with tmp := v }).setPc .timWrite) s

/-- R108, TIM_WRITE. -/
def phaseTimWrite (s : State) : State :=
  issueWrite (smiWrite (timingIndex s) (slotWord s.x.tmp (countsWord s.x.op1 s.x.op2 s.x.op3 s.x.op4)))
    (·.setPc .respond) s

end Sys2Proof.Machine
end

