-- ==== Sys2Proof/Machine/Transfer.lean ====
section
/-! DEFINITION. The direct-transfer polled state machine (44_direct_transfer.md): WRITE_BYTE, READ_BYTE and the phases
XF_CHECK to XF_CLEAR_DONE (R114 to R122). -/

namespace Sys2Proof.Machine

/-- R114: the accept step's latches, then the guard, with no bus transaction. -/
def acceptTransfer (x : Latches) (s : State) : State :=
  let t := s.setX { x with polls := 0, stale := false }
  if channelOut x.op0 then t.respond (guardStatus t.cfg) 0 else t.setPc .xfCheck

/-- R123 -/
def execWriteByte (ch addr data : Word) (s : State) : Host.Outcome State Fault Refusal :=
  whileRunning s (admitCommand
    (acceptTransfer { s.x with opc := opcWriteByte, dir := .write, op0 := ch, op1 := addr, op2 := data }) s)

/-- R124 -/
def execReadByte (ch addr : Word) (s : State) : Host.Outcome State Fault Refusal :=
  whileRunning s (admitCommand
    (acceptTransfer { s.x with opc := opcReadByte, dir := .read, op0 := ch, op1 := addr }) s)

/-- R115, XF_CHECK. -/
def phaseXfCheck (s : State) : State :=
  issueRead (smiRead idxDcs)
    (fun r t => if dcsDone r then (t.setX { t.x with stale := true }).setPc .xfClearStale else t.setPc .xfAddr) s

/-- R116, XF_CLEAR_STALE. -/
def phaseXfClearStale (s : State) : State := issueWrite (smiWrite idxDcs doneBit) (·.setPc .xfAddr) s

/-- R117, XF_ADDR. -/
def phaseXfAddr (s : State) : State :=
  issueWrite (smiWrite idxDa (daWord s.x.op0 s.x.op1))
    (fun t => t.setPc (match t.x.dir with | .write => .xfData | .read => .xfTrigger)) s

/-- R118, XF_DATA. -/
def phaseXfData (s : State) : State := issueWrite (smiWrite idxDd (ddWord s.x.op2)) (·.setPc .xfTrigger) s

/-- R119, XF_TRIGGER. -/
def phaseXfTrigger (s : State) : State := issueWrite (smiWrite idxDcs (triggerWord s.x.dir)) (·.setPc .xfPoll) s

/-- R120: what follows a poll read, the read already counted. -/
def pollNext (done : Bool) (t : State) : State :=
  if done then t.setPc (match t.x.dir with | .read => .xfCapture | .write => .xfClearDone)
  else
    match t.cfg.pollLimit with
    | none => t.setPc .xfPoll
    | some n => if n ≤ t.x.polls.toNat then t.respond .timeout 0 else t.setPc .xfPoll

/-- R120, XF_POLL. -/
def phaseXfPoll (s : State) : State :=
  issueRead (smiRead idxDcs) (fun r t => pollNext (dcsDone r) (t.setX { t.x with polls := pollsNext t.x.polls })) s

/-- R121, XF_CAPTURE. -/
def phaseXfCapture (s : State) : State :=
  issueRead (smiRead idxDd) (fun v t => (t.setX { t.x with rdata := ddByte v }).setPc .xfClearDone) s

/-- R122, XF_CLEAR_DONE. -/
def phaseXfClearDone (s : State) : State := issueWrite (smiWrite idxDcs doneBit) (·.setPc .respond) s

end Sys2Proof.Machine
end

