-- ==== Sys2Proof/Machine/Controller.lean ====
section
/-! DEFINITION. The controller's step: the phase that `pc` names (R15), and RESPOND. -/

namespace Sys2Proof.Machine

/-- The value RESPOND returns (R137): ACTIVATE 1 (R133), a transfer `x[dir] = 0 ? zext_32(x[rdata]) : 0` (R122), others 0
(log 13). -/
def responseValue (x : Latches) : Word :=
  if x.opc = opcActivate then 1
  else if x.opc = opcWriteByte ∨ x.opc = opcReadByte then
    match x.dir with
    | .read => x.rdata.setWidth 32
    | .write => 0
  else 0

/-- RESPOND (R100, R105, R106, R108, R122, R133, R134). -/
def phaseRespond (s : State) : State := s.respond .ok (responseValue s.x)

/-- R15: one phase. In IDLE the controller waits for a command (R153). -/
def phaseStep (s : State) : State :=
  match s.pc with
  | .idle => s
  | .clkDisable => phaseClkDisable s
  | .clkDivide => phaseClkDivide s
  | .clkEnable => phaseClkEnable s
  | .pinSet => phasePinSet s
  | .timRead => phaseTimRead s
  | .timWrite => phaseTimWrite s
  | .xfCheck => phaseXfCheck s
  | .xfClearStale => phaseXfClearStale s
  | .xfAddr => phaseXfAddr s
  | .xfData => phaseXfData s
  | .xfTrigger => phaseXfTrigger s
  | .xfPoll => phaseXfPoll s
  | .xfCapture => phaseXfCapture s
  | .xfClearDone => phaseXfClearDone s
  | .actSlotInit => phaseActSlotInit s
  | .actSlotRead => phaseActSlotRead s
  | .actSlotWrite => phaseActSlotWrite s
  | .deactRelease => phaseDeactRelease s
  | .respond => phaseRespond s

/-- The controller's turn: stopped after a fault (R142). -/
def controllerStep (s : State) : Host.Outcome State Fault Refusal := whileRunning s (phaseStep s)

end Sys2Proof.Machine
end

