-- ==== Sys2Proof/Machine/Dispatch.lean ====
section
/-! DEFINITION. One arm per row of the opcode table. -/

namespace Sys2Proof.Machine

def exec (i : Instr) (s : State) : Host.Outcome State Fault Refusal :=
  match i with
  | .activate => Sys2Proof.Machine.execActivate s
  | .deactivate => Sys2Proof.Machine.execDeactivate s
  | .configureClock => Sys2Proof.Machine.execConfigureClock s
  | .activatePins => Sys2Proof.Machine.execActivatePins s
  | .deactivatePins => Sys2Proof.Machine.execDeactivatePins s
  | .setTiming dir ch setup strobe hold pace => Sys2Proof.Machine.execSetTiming dir ch setup strobe hold pace s
  | .writeByte ch addr data => Sys2Proof.Machine.execWriteByte ch addr data s
  | .readByte ch addr => Sys2Proof.Machine.execReadByte ch addr s
  | .rdCs => Sys2Proof.Machine.execRdCs s
  | .wrCs v => Sys2Proof.Machine.execWrCs v s
  | .rdDsr0 => Sys2Proof.Machine.execRdDsr0 s
  | .wrDsr0 v => Sys2Proof.Machine.execWrDsr0 v s
  | .rdDsw0 => Sys2Proof.Machine.execRdDsw0 s
  | .wrDsw0 v => Sys2Proof.Machine.execWrDsw0 v s
  | .rdDsr1 => Sys2Proof.Machine.execRdDsr1 s
  | .wrDsr1 v => Sys2Proof.Machine.execWrDsr1 v s
  | .rdDsw1 => Sys2Proof.Machine.execRdDsw1 s
  | .wrDsw1 v => Sys2Proof.Machine.execWrDsw1 v s
  | .rdDsr2 => Sys2Proof.Machine.execRdDsr2 s
  | .wrDsr2 v => Sys2Proof.Machine.execWrDsr2 v s
  | .rdDsw2 => Sys2Proof.Machine.execRdDsw2 s
  | .wrDsw2 v => Sys2Proof.Machine.execWrDsw2 v s
  | .rdDsr3 => Sys2Proof.Machine.execRdDsr3 s
  | .wrDsr3 v => Sys2Proof.Machine.execWrDsr3 v s
  | .rdDsw3 => Sys2Proof.Machine.execRdDsw3 s
  | .wrDsw3 v => Sys2Proof.Machine.execWrDsw3 v s
  | .rdDcs => Sys2Proof.Machine.execRdDcs s
  | .wrDcs v => Sys2Proof.Machine.execWrDcs v s
  | .rdDa => Sys2Proof.Machine.execRdDa s
  | .wrDa v => Sys2Proof.Machine.execWrDa v s
  | .rdDd => Sys2Proof.Machine.execRdDd s
  | .wrDd v => Sys2Proof.Machine.execWrDd v s
  | .rdCmCtl => Sys2Proof.Machine.execRdCmCtl s
  | .wrCmCtl v => Sys2Proof.Machine.execWrCmCtl v s
  | .rdCmDiv => Sys2Proof.Machine.execRdCmDiv s
  | .wrCmDiv v => Sys2Proof.Machine.execWrCmDiv v s
  | .fselGpio p v => Sys2Proof.Machine.execFselGpio p v s

end Sys2Proof.Machine
end

