-- ==== Sys2Proof/Machine/Engine.lean ====
section
/-! DEFINITION. The SMI engine's completion and the external device (40_register_block.md section 7, R97, R98). -/

namespace Sys2Proof.Machine

/-- R98, loopback: the byte of the latest driven write completion to the same (ch, addr) in the history. -/
def lastDrivenWrite (ch : BitVec 2) (addr : BitVec 6) : List Event → Option Byte
  | [] => none
  | e :: es =>
    match lastDrivenWrite ch addr es with
    | some b => some b
    | none =>
      match e with
      | .device c a .write b true => if c = ch ∧ a = addr then some b else none
      | .device _ _ _ _ _ => none
      | .read _ _ => none
      | .write _ _ => none
      | .refused _ _ _ => none
      | .faulted _ _ _ => none

/-- R98: `DevRead(ch, addr)`. -/
def deviceRead (s : State) (ch : BitVec 2) (addr : BitVec 6) : Byte :=
  match s.cfg.device with
  | .oracle => Config.devRead s.draws ch addr
  | .loopback =>
    match lastDrivenWrite ch addr s.history with
    | some b => b
    | none => Config.devRead s.draws ch addr

/-- R97: the byte a read completion delivers; any value when the pins are not driven. -/
def readByteOf (s : State) (x : Xfer) : Byte := if s.driven then deviceRead s x.ch x.addr else Config.draw 8 s.draws

/-- R97: the completion of a read, up to DONE: `DD[7:0] <- b`, `DD[31:8]` drawn, the device event. -/
def completeRead (s : State) (x : Xfer) : State :=
  ((s.setDd (Config.draw 24 s.draws ++ readByteOf s x)).nextDraw).log
    (.device x.ch x.addr .read (readByteOf s x) s.driven)

/-- R97: the completion of a write, up to DONE: the device event, which is all that `Device.write` leaves (R98). -/
def completeWrite (s : State) (x : Xfer) : State := s.log (.device x.ch x.addr .write x.wbyte s.driven)

/-- R97: one atomic step (R42). -/
def completeXfer (s : State) (x : Xfer) : State :=
  let t := match x.dir with | .read => completeRead s x | .write => completeWrite s x
  (t.setDcs { t.dcs with done := true }).setPending none

/-- The engine's turn (R97): it completes the pending transfer when `clockOK`; otherwise it is not enabled and nothing
moves. A fault does not stop it (R142). -/
def engineStep (s : State) : State :=
  match s.pending with
  | some x => if s.clockOK then completeXfer s x else s
  | none => s

end Sys2Proof.Machine
end

