-- ==== Sys2Proof/Machine/Step.lean ====
section
/-! DEFINITION. One step of the machine: the agent that the schedule names moves (R5, R41, R42; log 1). -/

namespace Sys2Proof.Machine

/-- R135: the host presents the command at the front of the port. An illegal header consumes one word (R49); while the
command is not whole, nothing is presented (log 5). -/
def hostStep (s : State) : Host.Outcome State Fault Refusal :=
  match decodeCommand s.port with
  | .ok (i, rest) => exec i (s.setPort rest)
  | .error .illegalCommand => whileRunning s (admitIllegal (s.setPort s.port.tail))
  | .error _ => .next s

/-- One bus request driven by a harness in the controller's place (R60, R96). R149: nothing but an engine completion comes
between the steps of a command, so a request while one is in progress is a second issuer, which R44 and R136 keep out of
the model: it faults before it is a transaction (log 9). -/
def busStep (r : BusReq) (s : State) : Host.Outcome State Fault Refusal :=
  if s.pc ≠ .idle then whileRunning s (s.takeFault .overlap none)
  else
    match decodeBus r with
    | .ok i => exec i s
    | .error _ => driveBus r (.fault .busUnlisted) s

/-- The step. With nothing scheduled the controller moves; and where BUS_RESPONDS is assumed an enabled completion is not
put off any longer (R97 "weakly fair"; log 1). -/
def step (s : State) : Host.Outcome State Fault Refusal :=
  match s.schedule with
  | .host :: ts => hostStep (s.setSchedule ts)
  | .bus r :: ts => busStep r (s.setSchedule ts)
  | .controller :: ts => controllerStep (s.setSchedule ts)
  | .engine :: ts => .next (engineStep (s.setSchedule ts))
  | [] => if s.cfg.busResponds && s.engineEnabled then .next (engineStep s) else controllerStep s

/-- The words of the command a header starts, with operand words of the given tail (R48, R49). -/
def commandWords : List Word → List Word
  | [] => []
  | h :: ops => h :: ops.take (operandCount (headerOpc h))

/-- The state whose very next step runs the instruction whose bits are `w`, numbered as the opcode table numbers them:
a BUS row's descriptor is driven on the bus, which takes a controller with no command in progress (R149), and a command's
words are put at the front of the port and presented (log 6). -/
def State.withFetchWord (s : State) (nbits w : Nat) : State :=
  if nbits ≤ 16 then (s.setPc .idle).setSchedule (.bus ⟨BitVec.ofNat 9 w, 0⟩ :: s.schedule)
  else (s.setPort (commandWords (wordsOf w) ++ s.port)).setSchedule (.host :: s.schedule)

end Sys2Proof.Machine
end

