-- ==== Sys2Proof/Machine/Assembler.lean ====
section
/-! DEFINITION. The spec's textual command syntax, one line per command, and its one pseudo-command (30_encoding.md R62,
R63). It stands beside the machine: the block itself only ever sees command words. -/

namespace Sys2Proof.Machine

/-- What stands between the parts of a line (log 24). -/
def isBlank (c : Char) : Bool := c == ' ' || c == '\t'

/-- The blanks around a part are no part of it (log 24). -/
def trimBlanks (cs : List Char) : List Char := ((cs.dropWhile isBlank).reverse.dropWhile isBlank).reverse

/-- R62: operands are separated by commas. -/
def splitCommas : List Char → List (List Char)
  | [] => [[]]
  | c :: cs =>
    if c = ',' then [] :: splitCommas cs
    else
      match splitCommas cs with
      | [] => [[c]]
      | part :: parts => (c :: part) :: parts

/-- The value of one digit, decimal or hexadecimal, if it is one in that base. -/
def digitValue (base : Nat) (c : Char) : Option Nat :=
  let v :=
    if '0'.toNat ≤ c.toNat ∧ c.toNat ≤ '9'.toNat then c.toNat - '0'.toNat
    else if 'a'.toNat ≤ c.toNat ∧ c.toNat ≤ 'f'.toNat then c.toNat - 'a'.toNat + 10
    else if 'A'.toNat ≤ c.toNat ∧ c.toNat ≤ 'F'.toNat then c.toNat - 'A'.toNat + 10
    else base
  if v < base then some v else none

/-- The number that digits stand for, most significant first, after the digits read so far. -/
def digitsValue (base soFar : Nat) : List Char → Option Nat
  | [] => some soFar
  | c :: cs =>
    match digitValue base c with
    | some v => digitsValue base (soFar * base + v) cs
    | none => none

/-- A number as the digits of its text, without a bound. -/
def numberValue : List Char → Option Nat
  | [] => none
  | '0' :: 'x' :: [] => none
  | '0' :: 'x' :: ds => digitsValue 16 0 ds
  | ds => digitsValue 10 0 ds

/-- R62: "a number ≥ 2^32 is a syntax error". -/
def parseNumber (cs : List Char) : Option Word :=
  match numberValue cs with
  | some n => if n < 2 ^ 32 then some (BitVec.ofNat 32 n) else none
  | none => none

/-- R62: the direction is `r` or `w`. -/
def parseDir : List Char → Option Dir
  | ['r'] => some .read
  | ['w'] => some .write
  | _ => none

/-- `write_byte <ch>, <addr>, <data>` -/
def assembleWrite (ch addr data : List Char) : Option Instr :=
  match parseNumber ch, parseNumber addr, parseNumber data with
  | some c, some a, some d => some (.writeByte c a d)
  | _, _, _ => none

/-- `read_byte <ch>, <addr>` -/
def assembleRead (ch addr : List Char) : Option Instr :=
  match parseNumber ch, parseNumber addr with
  | some c, some a => some (.readByte c a)
  | _, _ => none

/-- `set_timing <ch>, r|w, <setup>, <strobe>, <hold>, <pace>` -/
def assembleTiming (ch dir setup strobe hold pace : List Char) : Option Instr :=
  match parseNumber ch, parseDir dir, parseNumber setup, parseNumber strobe, parseNumber hold, parseNumber pace with
  | some c, some d, some s, some t, some h, some p => some (.setTiming d c s t h p)
  | _, _, _, _, _, _ => none

/-- R63: `transfer <ch>, w, <addr>, <data>` and `transfer <ch>, r, <addr>`. -/
def assembleTransfer : List (List Char) → Option Instr
  | [ch, dir, addr, data] => if dir = ['w'] then assembleWrite ch addr data else none
  | [ch, dir, addr] => if dir = ['r'] then assembleRead ch addr else none
  | _ => none

/-- The command that a mnemonic with its operands stands for (R62, R63); `none` is a syntax error. -/
def assembleParts (mnemonic : List Char) (operands : List (List Char)) : Option Instr :=
  if mnemonic = "activate".toList then (if operands = [] then some .activate else none)
  else if mnemonic = "deactivate".toList then (if operands = [] then some .deactivate else none)
  else if mnemonic = "configure_clock".toList then (if operands = [] then some .configureClock else none)
  else if mnemonic = "activate_pins".toList then (if operands = [] then some .activatePins else none)
  else if mnemonic = "deactivate_pins".toList then (if operands = [] then some .deactivatePins else none)
  else if mnemonic = "set_timing".toList then
    match operands with
    | [ch, dir, setup, strobe, hold, pace] => assembleTiming ch dir setup strobe hold pace
    | _ => none
  else if mnemonic = "write_byte".toList then
    match operands with
    | [ch, addr, data] => assembleWrite ch addr data
    | _ => none
  else if mnemonic = "read_byte".toList then
    match operands with
    | [ch, addr] => assembleRead ch addr
    | _ => none
  else if mnemonic = "transfer".toList then assembleTransfer operands
  else none

/-- R62: one line is one command. -/
def assembleLine (line : String) : Option Instr :=
  let cs := trimBlanks line.toList
  let rest := trimBlanks (cs.dropWhile (!isBlank ·))
  assembleParts (cs.takeWhile (!isBlank ·)) (if rest = [] then [] else (splitCommas rest).map trimBlanks)

/-- The words of a line, as they go on the command port (R47). -/
def assembleWords (line : String) : Option (List Word) :=
  match assembleLine line with
  | some i =>
    match encode i with
    | .command ws => some ws
    | .bus _ => none
  | none => none

end Sys2Proof.Machine
end

