-- ==== Sys2Proof/Safety.lean ====
section
/-! DEFINITION. What claims speak of: a run of the machine, the invariants of the controller, a transfer's record with its
drawn bits left out, and the part of the block that the engine cannot touch. -/

namespace Sys2Proof.Machine

/-- `n` steps of the machine. -/
def run (n : Nat) (s : State) : Host.Outcome State Fault Refusal := Host.Core.run Sys2Proof.core n s

/-- A safe state: no fault and no refusal so far (R16). Claims about what an instruction does speak of these states
alone: after a fault the controller takes no step (R142), and after a refusal "no claim speaks of the run" (R139). -/
abbrev State.Clean (s : State) : Prop := s.fault = none ∧ s.refused = false

/-! ### The controller's invariant: its latches fit its phase -/

/-- The command in progress is a transfer with a channel in range, and `x[dir]` is its direction (R114). -/
def transferLatches (x : Latches) : Bool :=
  !channelOut x.op0 && ((x.opc == opcWriteByte && x.dir == .write) || (x.opc == opcReadByte && x.dir == .read))

/-- R15, with the phase sequences of files 41 to 45: which command can be in which phase, and with which latches. -/
def State.phaseFits (s : State) : Bool :=
  match s.pc with
  | .idle => true
  | .clkDisable | .clkDivide | .clkEnable =>
    s.hstate == .active && (s.x.opc == opcActivate || s.x.opc == opcConfigureClock)
  | .pinSet =>
    s.hstate == .active &&
      (((s.x.opc == opcActivate || s.x.opc == opcActivatePins) && s.x.fsel == fselSmi) ||
        ((s.x.opc == opcDeactivate || s.x.opc == opcDeactivatePins) && s.x.fsel == fselInput))
  | .timRead | .timWrite => s.hstate == .active && s.x.opc == opcSetTiming && !channelOut s.x.op0
  | .xfCheck | .xfAddr | .xfTrigger | .xfPoll | .xfClearDone => s.hstate == .active && transferLatches s.x
  | .xfClearStale => s.hstate == .active && transferLatches s.x && s.x.stale
  | .xfData => s.hstate == .active && transferLatches s.x && s.x.opc == opcWriteByte
  | .xfCapture => s.hstate == .active && transferLatches s.x && s.x.opc == opcReadByte
  | .actSlotInit | .actSlotRead | .actSlotWrite =>
    s.hstate == .active && s.x.opc == opcActivate && decide (s.x.k.toNat ≤ 7)
  | .deactRelease => s.hstate == .active && s.x.opc == opcDeactivate
  | .respond =>
    (s.hstate == .unmapped && s.x.opc == opcDeactivate) ||
      (s.hstate == .active && (s.x.opc == opcActivate || s.x.opc == opcConfigureClock || s.x.opc == opcActivatePins ||
        s.x.opc == opcDeactivatePins || s.x.opc == opcSetTiming || transferLatches s.x))

/-- What every step keeps, whoever moves: the latches fit the phase; there is a response only in IDLE (R17); a transfer in
flight goes through an 8-bit slot (R86); the refused mark and the reason of the latest refusal go together (R139). -/
structure State.Inv (s : State) : Prop where
  phase : s.phaseFits = true
  response : s.pc ≠ .idle → s.response = none
  width : ∀ x, s.pending = some x → slotWidth x.slot = width8Code
  refusal : s.refused = s.refusal.isSome

/-! ### What holds while nobody but the controller drives the bus (R44, R149) -/

/-- No harness has the bus at the next step. While a command is in progress none can have it (R149). -/
def State.quiet (s : State) : Prop := s.pc = .idle → ∀ r, s.schedule.head? ≠ some (.bus r)

/-- What a step leaves on the command port: a host's turn that presents a command uses up its words, or the one word of an
illegal header (R49). -/
def State.portAfterTurn (s : State) : List Word :=
  match s.schedule.head? with
  | some .host =>
    match decodeCommand s.port with
    | .ok (_, rest) => rest
    | .error .illegalCommand => s.port.tail
    | .error _ => s.port
  | some (.bus _) => s.port
  | some .controller => s.port
  | some .engine => s.port
  | none => s.port

/-- The state a turn acts on: the schedule's first entry is used up. -/
def State.afterTurn (s : State) : State := { s with schedule := s.schedule.tail }

/-- R99: the generator is stopped between CLK_DISABLE and CLK_ENABLE (R151). -/
def State.clockFits (s : State) : Bool :=
  match s.pc with
  | .clkDivide | .clkEnable => !s.clk.enab
  | .idle | .clkDisable | .pinSet | .timRead | .timWrite | .xfCheck | .xfClearStale | .xfAddr | .xfData | .xfTrigger
  | .xfPoll | .xfCapture | .xfClearDone | .actSlotInit | .actSlotRead | .actSlotWrite | .deactRelease | .respond => true

/-- R101: while the handle is ACTIVE the clock runs at F_SMI, but inside the clock sequence itself. -/
def State.clockReady (s : State) : Bool :=
  match s.pc with
  | .clkDisable | .clkDivide => true
  | .clkEnable => s.clk.divi == smiClkDivi && s.clk.divf == smiClkDivf
  | .idle | .pinSet | .timRead | .timWrite | .xfCheck | .xfClearStale | .xfAddr | .xfData | .xfTrigger | .xfPoll
  | .xfCapture | .xfClearDone | .actSlotInit | .actSlotRead | .actSlotWrite | .deactRelease | .respond =>
    !(s.hstate == .active) || s.clockOK

/-- With the unbounded poll (R120, no TIMEOUT): where a transfer is in flight and where DONE is clear (R115 to R122). -/
def State.transferFits (s : State) : Bool :=
  match s.pc with
  | .xfPoll => !(s.pending.isSome && s.dcs.done)
  | .xfAddr | .xfData | .xfTrigger => s.pending.isNone && !s.dcs.done
  | .respond => s.pending.isNone && (!transferLatches s.x || !s.dcs.done)
  | .idle | .clkDisable | .clkDivide | .clkEnable | .pinSet | .timRead | .timWrite | .xfCheck | .xfClearStale
  | .xfCapture | .xfClearDone | .actSlotInit | .actSlotRead | .actSlotWrite | .deactRelease => s.pending.isNone

/-! ### Traces -/

/-- An event as traces show it (44_direct_transfer.md, 95_test_vectors.md): of a DCS read only DONE is fixed, and of a DD
read only the byte. -/
def Event.shown : Event → Event
  | .read d v => .read d (if d = 0x00D then v &&& doneBit else if d = 0x00F then v &&& 0xFF else v)
  | .write d v => .write d v
  | .refused d v x => .refused d v x
  | .faulted d v f => .faulted d v f
  | .device c a d b w => .device c a d b w

/-- The DCS read of a trace, `RD SMI[13] -> {DONE=d}`. -/
def dcsReadShown (done : Bool) : Event := .read 0x00D (if done then doneBit else 0)

/-- The history as traces show it. -/
def State.trace (s : State) : List Event := s.history.map Event.shown

/-- The device events are left out: the bus transactions alone. -/
def isBusEvent : Event → Bool
  | .read _ _ => true
  | .write _ _ => true
  | .refused _ _ _ => true
  | .faulted _ _ _ => true
  | .device _ _ _ _ _ => false

/-! ### What the engine cannot touch -/

/-- The block without what an engine completion writes: DCS, DD, the transfer in flight, the device events, the count of
draws (R97), and the inputs of the schedule. -/
def State.withoutEngine (s : State) : State :=
  { s with
    dcs := ⟨false, false, false⟩, dd := 0, pending := none, draws := 0, schedule := [],
    history := s.history.filter isBusEvent }

/-- The phases of the direct-transfer state machine (R15). -/
def Phase.isTransfer : Phase → Bool
  | .xfCheck | .xfClearStale | .xfAddr | .xfData | .xfTrigger | .xfPoll | .xfCapture | .xfClearDone => true
  | .idle | .clkDisable | .clkDivide | .clkEnable | .pinSet | .timRead | .timWrite | .actSlotInit | .actSlotRead
  | .actSlotWrite | .deactRelease | .respond => false

end Sys2Proof.Machine
end

