-- ==== Sys2Proof/Certificates/Slice0/Obligations.lean ====
section
/-! DEFINITION. The statements for the provers, from the numbered rules of spec/. -/

open Sys2Proof Sys2Proof.Machine

/-! ### Reset (R152, R153) -/

/-- R152: the fields whose reset value the spec gives. (The others are drawn: nothing is said of them.) -/
def Obligations.ResetIsIdleUnmappedAndEmpty : Prop :=
  State.reset.pc = .idle ∧ State.reset.hstate = .unmapped ∧ State.reset.fault = none ∧ State.reset.refused = false ∧
  State.reset.response = none ∧ State.reset.x.polls = 0 ∧ State.reset.pending = none ∧ State.reset.history = []

/-- The invariants of the controller, of the clock phases and of the transfer phases hold at reset. That the refused
mark and the reason of the latest refusal go together there rests on the model's own field and the reset value it
chose. [The model's own: log 8.] -/
def Obligations.InvariantsHoldAtReset : Prop :=
  State.reset.Inv ∧ State.reset.clockFits = true ∧ State.reset.clockReady = true ∧ State.reset.transferFits = true

/-! ### Encoding -/

/-- Words written out from R47, R48 and R59 decode to what they stand for (V-ENC-1 to V-ENC-4, V-ENC-11). [The model's
own: log 9.] -/
def Obligations.SpecWordsDecode : Prop :=
  decodeCommand [0x00000106, 0x00000000, 0x0000000A, 0x00000014, 0x00000014, 0x00000001] =
      .ok (.setTiming .write 0 10 20 20 1, []) ∧
  decodeCommand [0x00000006, 0x00000003, 0x00000001, 0x00000002, 0x00000003, 0x00000004] =
      .ok (.setTiming .read 3 1 2 3 4, []) ∧
  decodeCommand [0x00000007, 0x00000002, 0x00000045, 0x000001FF] = .ok (.writeByte 2 0x45 0x1FF, []) ∧
  decodeCommand [0x00000008, 0x00000000, 0x00000003] = .ok (.readByte 0 3, []) ∧
  decodeCommand [0x00000001] = .ok (.activate, []) ∧
  decodeBus ⟨0x10D, 0x0000000B⟩ = .ok (.wrDcs 0x0000000B) ∧ decodeBus ⟨0x005, 0⟩ = .ok .rdDsw0 ∧
  decodeBus ⟨0x121, 0x5A004000⟩ = .ok (.wrCmDiv 0x5A004000) ∧ decodeBus ⟨0x14F, 0b101⟩ = .ok (.fselGpio 15 0b101)

/-- Decoding an encoded well-formed instruction gives it back, with every operand at every value, and a command leaves
the words after it. -/
def Obligations.DecodeOfEncodeIsTheInstruction : Prop :=
  ∀ i : Instr, i.wellFormed = true →
    (∀ ws rest, encode i = .command ws → decodeCommand (ws ++ rest) = .ok (i, rest)) ∧
    (∀ r, encode i = .bus r → decodeBus r = .ok i) ∧
    (i.isCommand = true ↔ ∃ ws, encode i = .command ws)

/-- What decodes is well-formed, and its encoding is the words, or the descriptor (with the data word of a write),
that it was decoded from. -/
def Obligations.EncodeOfDecodeIsTheWords : Prop :=
  (∀ ws i rest, decodeCommand ws = .ok (i, rest) →
    i.wellFormed = true ∧ ∃ own, encode i = .command own ∧ ws = own ++ rest) ∧
  (∀ r i, decodeBus r = .ok i →
    i.wellFormed = true ∧ ∃ own, encode i = .bus own ∧ own.desc = r.desc ∧ (descWrites r.desc = true → own = r))

/-! ### A step runs what is decoded -/

/-- The host's turn: when the words at the front of the port decode to a command, the step is `exec` of it, the turn
and its words used up. [The model's own: log 1, 5.] -/
def Obligations.HostTurnRunsTheDecodedCommand : Prop :=
  ∀ (s : State) (ts : List Turn) (i : Instr) (rest : List Word),
    s.schedule = .host :: ts → decodeCommand s.port = .ok (i, rest) →
    step s = exec i { s with schedule := ts, port := rest }

/-- A harness's turn with no command in progress: when the descriptor decodes to a row, the step is `exec` of it, the
turn used up. While a command is in progress the request faults with F_OVERLAP and is no transaction. [The model's
own: log 1, 9.] -/
def Obligations.BusTurnRunsTheDecodedRow : Prop :=
  (∀ (s : State) (ts : List Turn) (r : BusReq) (i : Instr),
    s.schedule = .bus r :: ts → s.pc = .idle → decodeBus r = .ok i → step s = exec i { s with schedule := ts }) ∧
  (∀ (s : State) (ts : List Turn) (r : BusReq),
    s.schedule = .bus r :: ts → s.pc ≠ .idle → s.fault = none →
    step s = .next { s with schedule := ts, fault := some ⟨.overlap, s.pc, none⟩ })

/-- R49, R50, R135: exactly these headers are illegal; one word is consumed, no bus transaction is issued, and the
command is refused with X_ILLEGAL_COMMAND, or, while another command is in progress (check 1 comes first), faults.
[The model's own: log 1, 5, 8.] -/
def Obligations.IllegalHeadersAreRefused : Prop :=
  (∀ (h : Word) (ops : List Word),
    decodeCommand (h :: ops) = .error .illegalCommand ↔
      (h.toNat % 256 = 0 ∨ 9 ≤ h.toNat % 256 ∨ 512 ≤ h.toNat ∨ (h.getLsbD 8 = true ∧ h.toNat % 256 ≠ 6))) ∧
  (∀ (s : State) (ts : List Turn) (h : Word) (ops : List Word),
    s.Clean → s.pc = .idle → s.schedule = .host :: ts → s.port = h :: ops →
    decodeCommand (h :: ops) = .error .illegalCommand →
    step s = .next { s with schedule := ts, port := ops, refused := true, refusal := some .illegalCommand }) ∧
  (∀ (s : State) (ts : List Turn) (h : Word) (ops : List Word),
    s.Clean → s.pc ≠ .idle → s.schedule = .host :: ts → s.port = h :: ops →
    decodeCommand (h :: ops) = .error .illegalCommand →
    step s = .next { s with schedule := ts, port := ops, fault := some ⟨.overlap, s.pc, none⟩ })

/-- R60, R96: an unlisted descriptor faults with F_BUS_UNLISTED and has no other effect than its record; every other
descriptor decodes. [The model's own: log 1, 9, 10.] -/
def Obligations.UnlistedDescriptorsFault : Prop :=
  (∀ r : BusReq, (∃ e, decodeBus r = .error e) ↔
    (3 ≤ (r.desc.toNat / 32) % 8 ∨
     ((r.desc.toNat / 32) % 8 = 0 ∧
       (r.desc.toNat % 32 = 1 ∨ r.desc.toNat % 32 = 2 ∨ r.desc.toNat % 32 = 3 ∨ r.desc.toNat % 32 = 12 ∨
        16 ≤ r.desc.toNat % 32)) ∨
     ((r.desc.toNat / 32) % 8 = 1 ∧ 2 ≤ r.desc.toNat % 32) ∨
     ((r.desc.toNat / 32) % 8 = 2 ∧ (r.desc.toNat < 256 ∨ 16 ≤ r.desc.toNat % 32)))) ∧
  (∀ (s : State) (ts : List Turn) (r : BusReq) (e : DecodeError),
    s.Clean → s.pc = .idle → s.schedule = .bus r :: ts → decodeBus r = .error e →
    step s = .next { s with
      schedule := ts
      fault := some ⟨.busUnlisted, .idle, some (r.desc, if r.desc.getLsbD 8 then some r.data else none)⟩
      history := s.history ++
        [.faulted r.desc (if r.desc.getLsbD 8 then some r.data else none) .busUnlisted] })

/-! ### The assembler (30_encoding.md section 4) -/

/-- R62: a number's text stands for the operand word of its value, and a number of 2^32 or more for none. [The model's
own: log 24.] -/
def Obligations.NumbersAreOperandWords : Prop :=
  ∀ cs : List Char,
    (∀ w : Word, parseNumber cs = some w ↔ numberValue cs = some w.toNat) ∧
    (∀ n, numberValue cs = some n → 2 ^ 32 ≤ n → parseNumber cs = none)

/-- R63: `transfer` assembles to WRITE_BYTE or READ_BYTE, by its direction, and has no other form. -/
def Obligations.TransferIsWriteByteOrReadByte : Prop :=
  (∀ ch addr data : List Char,
    assembleParts "transfer".toList [ch, ['w'], addr, data] = assembleParts "write_byte".toList [ch, addr, data] ∧
    assembleParts "transfer".toList [ch, ['r'], addr] = assembleParts "read_byte".toList [ch, addr]) ∧
  (∀ (operands : List (List Char)) (i : Instr), assembleParts "transfer".toList operands = some i →
    (∃ ch addr data, operands = [ch, ['w'], addr, data]) ∨ (∃ ch addr, operands = [ch, ['r'], addr]))

/-! ### Register transactions (40_register_block.md) -/

/-- The rows that read a timing slot: the instruction, its descriptor, its slot (R67 to R81, odd). -/
def slotReadRows : List (Instr × BitVec 9 × Fin 8) :=
  [(.rdDsr0, 0x004, 0), (.rdDsw0, 0x005, 1), (.rdDsr1, 0x006, 2), (.rdDsw1, 0x007, 3),
   (.rdDsr2, 0x008, 4), (.rdDsw2, 0x009, 5), (.rdDsr3, 0x00A, 6), (.rdDsw3, 0x00B, 7)]

/-- The rows that write v to a timing slot (R68 to R82, even). -/
def slotWriteRows (v : Word) : List (Instr × BitVec 9 × Fin 8) :=
  [(.wrDsr0 v, 0x104, 0), (.wrDsw0 v, 0x105, 1), (.wrDsr1 v, 0x106, 2), (.wrDsw1 v, 0x107, 3),
   (.wrDsr2 v, 0x108, 4), (.wrDsw2 v, 0x109, 5), (.wrDsr3 v, 0x10A, 6), (.wrDsw3 v, 0x10B, 7)]

/-- R67, R69, R71, R73, R75, R77, R79, R81: the read returns the slot and changes nothing but the history. -/
def Obligations.SlotReadsReturnTheSlot : Prop :=
  ∀ (s : State) (i : Instr) (d : BitVec 9) (k : Fin 8), s.Clean → (i, d, k) ∈ slotReadRows →
    exec i s = .next { s with history := s.history ++ [.read d s.slot[k]] }

/-- R68, R70, R72, R74, R76, R78, R80, R82: the write stores v in that slot, every other slot and every other field
but the history unchanged (so a transfer in flight is unchanged, R158). -/
def Obligations.SlotWritesStoreTheWord : Prop :=
  ∀ (s : State) (v : Word) (i : Instr) (d : BitVec 9) (k : Fin 8), s.Clean → (i, d, k) ∈ slotWriteRows v →
    ∃ slots : Vector Word 8, exec i s = .next { s with slot := slots, history := s.history ++ [.write d v] } ∧
      slots[k] = v ∧ ∀ j : Fin 8, j ≠ k → slots[j] = s.slot[j]

/-- R65, R66: any access to CS is refused with X_CS_ACCESS; CS and every other register keep their values. [The
model's own: log 8, 10.] -/
def Obligations.CsAccessIsRefused : Prop :=
  ∀ (s : State) (v : Word), s.Clean →
    exec .rdCs s = .next { s with
      refused := true, refusal := some .csAccess, history := s.history ++ [.refused 0x000 none .csAccess] } ∧
    exec (.wrCs v) s = .next { s with
      refused := true, refusal := some .csAccess, history := s.history ++ [.refused 0x100 (some v) .csAccess] }

/-- R83: ENABLE, DONE and WRITE as stored; START and bits 31:4 are free values, whose counter moves on; the read
clears nothing. [The model's own: log 3.] -/
def Obligations.DcsReadReturnsTheStoredFlags : Prop :=
  ∀ s : State, s.Clean →
    ∃ r : Word, exec .rdDcs s = .next { s with draws := s.draws + 1, history := s.history ++ [.read 0x00D r] } ∧
      r.getLsbD 0 = s.dcs.enable ∧ r.getLsbD 2 = s.dcs.done ∧ r.getLsbD 3 = s.dcs.write ∧
      r.extractLsb' 1 1 = Config.draw 1 s.draws ∧ r.extractLsb' 4 28 = Config.draw 28 s.draws

/-- R84, first check (with R142): START while a transfer is in flight faults, whatever else the word holds, and
changes no register. -/
def Obligations.StartWhilePendingFaults : Prop :=
  ∀ (s : State) (v : Word), s.Clean → v.getLsbD 1 = true → s.pending ≠ none →
    exec (.wrDcs v) s = .next { s with
      fault := some ⟨.startWhilePending, s.pc, some (0x10D, some v)⟩
      history := s.history ++ [.faulted 0x10D (some v) .startWhilePending] }

/-- R84, R85: a DCS write without START, or with START but without ENABLE when nothing is in flight, clears DONE when
bit 2 is 1, stores ENABLE and WRITE, and starts nothing. -/
def Obligations.DcsWriteWithoutStartStoresTheFlags : Prop :=
  ∀ (s : State) (v : Word), s.Clean →
    (v.getLsbD 1 = false ∨ (s.pending = none ∧ v.getLsbD 0 = false)) →
    exec (.wrDcs v) s = .next { s with
      dcs := ⟨v.getLsbD 0, if v.getLsbD 2 then false else s.dcs.done, v.getLsbD 3⟩
      history := s.history ++ [.write 0x10D v] }

/-- R84: with START and ENABLE and nothing in flight, the transfer is sampled from DA, DD and the slot `2*DA[9:8] +
WRITE` when that slot is 8-bit, and refused with X_WIDTH, after DONE, ENABLE and WRITE, when it is not (R86). [The
model's own: log 8.] -/
def Obligations.DcsWriteWithStartSamplesTheTransfer : Prop :=
  ∀ (s : State) (v : Word) (d : Dir) (k : Fin 8), s.Clean → s.pending = none →
    v.getLsbD 1 = true → v.getLsbD 0 = true →
    d = (if v.getLsbD 3 then .write else .read) →
    k.val = 2 * (s.da.extractLsb' 8 2).toNat + (if v.getLsbD 3 then 1 else 0) →
    ((s.slot[k].extractLsb' 30 2 = 0#2 →
      exec (.wrDcs v) s = .next { s with
        dcs := ⟨true, if v.getLsbD 2 then false else s.dcs.done, v.getLsbD 3⟩
        pending := some ⟨s.da.extractLsb' 8 2, s.da.extractLsb' 0 6, d, s.dd.extractLsb' 0 8, s.slot[k]⟩
        history := s.history ++ [.write 0x10D v] }) ∧
     (s.slot[k].extractLsb' 30 2 ≠ 0#2 →
      exec (.wrDcs v) s = .next { s with
        dcs := ⟨true, if v.getLsbD 2 then false else s.dcs.done, v.getLsbD 3⟩
        refused := true, refusal := some .width
        history := s.history ++ [.refused 0x10D (some v) .width] }))

/-- R87 to R90: DA and DD are plain storage. -/
def Obligations.DaAndDdAreStorage : Prop :=
  ∀ (s : State) (v : Word), s.Clean →
    exec .rdDa s = .next { s with history := s.history ++ [.read 0x00E s.da] } ∧
    exec (.wrDa v) s = .next { s with da := v, history := s.history ++ [.write 0x10E v] } ∧
    exec .rdDd s = .next { s with history := s.history ++ [.read 0x00F s.dd] } ∧
    exec (.wrDd v) s = .next { s with dd := v, history := s.history ++ [.write 0x10F v] }

/-- R91, R92: a read of CTL or DIV is refused with X_UNMODELLED_READ. [The model's own: log 8, 10.] -/
def Obligations.ClockReadsAreRefused : Prop :=
  ∀ s : State, s.Clean →
    exec .rdCmCtl s = .next { s with
      refused := true, refusal := some .unmodelledRead
      history := s.history ++ [.refused 0x020 none .unmodelledRead] } ∧
    exec .rdCmDiv s = .next { s with
      refused := true, refusal := some .unmodelledRead
      history := s.history ++ [.refused 0x021 none .unmodelledRead] }

/-- R93, in its three cases: no password, a source change while running, and the write. -/
def Obligations.CtlWriteIsPasswordGated : Prop :=
  ∀ (s : State) (v : Word), s.Clean →
    (v.toNat / 2 ^ 24 ≠ 0x5A →
      exec (.wrCmCtl v) s = .next { s with history := s.history ++ [.write 0x120 v] }) ∧
    (v.toNat / 2 ^ 24 = 0x5A → s.clk.enab = true → v.getLsbD 4 = true → v.toNat % 16 ≠ s.clk.src.toNat →
      exec (.wrCmCtl v) s = .next { s with
        fault := some ⟨.clkWhileRunning, s.pc, some (0x120, some v)⟩
        history := s.history ++ [.faulted 0x120 (some v) .clkWhileRunning] }) ∧
    (v.toNat / 2 ^ 24 = 0x5A → (s.clk.enab = false ∨ v.getLsbD 4 = false ∨ v.toNat % 16 = s.clk.src.toNat) →
      exec (.wrCmCtl v) s = .next { s with
        clk := { s.clk with src := v.extractLsb' 0 4, enab := v.getLsbD 4 }
        history := s.history ++ [.write 0x120 v] })

/-- R94, in its three cases: no password, a divider change while running, and the write. -/
def Obligations.DivWriteNeedsTheClockStopped : Prop :=
  ∀ (s : State) (v : Word), s.Clean →
    (v.toNat / 2 ^ 24 ≠ 0x5A →
      exec (.wrCmDiv v) s = .next { s with history := s.history ++ [.write 0x121 v] }) ∧
    (v.toNat / 2 ^ 24 = 0x5A → s.clk.enab = true →
      exec (.wrCmDiv v) s = .next { s with
        fault := some ⟨.clkWhileRunning, s.pc, some (0x121, some v)⟩
        history := s.history ++ [.faulted 0x121 (some v) .clkWhileRunning] }) ∧
    (v.toNat / 2 ^ 24 = 0x5A → s.clk.enab = false →
      exec (.wrCmDiv v) s = .next { s with
        clk := { s.clk with divi := v.extractLsb' 12 12, divf := v.extractLsb' 0 12 }
        history := s.history ++ [.write 0x121 v] })

/-- R95: a pin of the set takes the code, the other pins keep theirs; a pin outside the set faults. [The model's own:
log 11.] -/
def Obligations.FunctionSelectSetsOnePin : Prop :=
  ∀ (s : State) (p : BitVec 5) (v : Word), s.Clean →
    (∀ hp : p.toNat < 16, ∃ pins : Vector (BitVec 3) 16,
      exec (.fselGpio p v) s = .next { s with
        fsel := pins, history := s.history ++ [.write (0x140#9 + p.setWidth 9) v] } ∧
      pins[p.toNat] = v.extractLsb' 0 3 ∧ ∀ q : Fin 16, q.val ≠ p.toNat → pins[q] = s.fsel[q]) ∧
    (16 ≤ p.toNat →
      exec (.fselGpio p v) s = .next { s with
        fault := some ⟨.busUnlisted, s.pc, some (0x140#9 + p.setWidth 9, some v)⟩
        history := s.history ++ [.faulted (0x140#9 + p.setWidth 9) (some v) .busUnlisted] })

/-- The two levels agree (R11): a bus row run by itself does what a phase's transaction with the row's encoding does.
[The model's own: log 9.] -/
def Obligations.BusRowsAreThePhasesTransactions : Prop :=
  ∀ (i : Instr) (r : BusReq) (s : State), i.wellFormed = true → encode i = .bus r → s.fault = none →
    exec i s = .next (commit r s (busEffect r s))

/-! ### Admission of a command (R135, R136, R159) -/

/-- R135 checks 1 and 3: a command while another is in progress, ACTIVATE while ACTIVE, and any other command while
not ACTIVE fault, and change nothing but the fault mark. -/
def Obligations.AdmissionFaults : Prop :=
  ∀ (s : State) (i : Instr), s.Clean → i.isCommand = true →
    (s.pc ≠ .idle → exec i s = .next { s with fault := some ⟨.overlap, s.pc, none⟩ }) ∧
    (s.pc = .idle → i = .activate → s.hstate = .active →
      exec i s = .next { s with fault := some ⟨.unpaired, .idle, none⟩ }) ∧
    (s.pc = .idle → i ≠ .activate → s.hstate ≠ .active →
      exec i s = .next { s with fault := some ⟨.unavailable, .idle, none⟩ })

/-- R142: after a fault no instruction is run, by the host or on the bus. [The model's own: log 7.] -/
def Obligations.NothingRunsAfterAFault : Prop :=
  ∀ (s : State) (i : Instr) (f : FaultRecord), s.fault = some f → exec i s = .fault f.reason

/-- R133, accept: with MAP_OK the handle is ACTIVE and the clock sequencer is next; without it the handle is FAILED,
the response is (UNAVAILABLE, 0) and there is no bus transaction. The outcome is used up either way. [The model's own:
log 12, 17.] -/
def Obligations.ActivateIsAccepted : Prop :=
  ∀ s : State, s.Clean → s.pc = .idle → s.hstate ≠ .active →
    (mapOutcome s = true →
      exec .activate s = .next { s with
        x := { s.x with opc := 0x01 }, hstate := .active, pc := .clkDisable, response := none
        draws := s.draws + 1, maps := s.maps.tail }) ∧
    (mapOutcome s = false →
      exec .activate s = .next { s with
        x := { s.x with opc := 0x01 }, hstate := .failed, response := some ⟨.unavailable, 0⟩
        draws := s.draws + 1, maps := s.maps.tail })

/-- R100, R105, R106, R134, accept: DEACTIVATE, CONFIGURE_CLOCK, ACTIVATE_PINS and DEACTIVATE_PINS load their latches
and go to their first phase, with no bus transaction. [The model's own: log 12.] -/
def Obligations.PlainCommandsAreAccepted : Prop :=
  ∀ s : State, s.Clean → s.pc = .idle → s.hstate = .active →
    exec .deactivate s = .next { s with
      x := { s.x with opc := 0x02, k := 0, fsel := 0b000 }, pc := .pinSet, response := none } ∧
    exec .configureClock s = .next { s with
      x := { s.x with opc := 0x03 }, pc := .clkDisable, response := none } ∧
    exec .activatePins s = .next { s with
      x := { s.x with opc := 0x04, k := 0, fsel := 0b101 }, pc := .pinSet, response := none } ∧
    exec .deactivatePins s = .next { s with
      x := { s.x with opc := 0x05, k := 0, fsel := 0b000 }, pc := .pinSet, response := none }

/-- R108, R114, accept with a channel 0..3: the operand words land in the latches (R14) and the first phase is next.
[The model's own: log 12.] -/
def Obligations.OperandCommandsAreAccepted : Prop :=
  ∀ (s : State) (dir : Dir) (ch a b c e : Word), s.Clean → s.pc = .idle → s.hstate = .active → ch.toNat ≤ 3 →
    exec (.setTiming dir ch a b c e) s = .next { s with
      x := { s.x with opc := 0x06, dir := dir, op0 := ch, op1 := a, op2 := b, op3 := c, op4 := e }
      pc := .timRead, response := none } ∧
    exec (.writeByte ch a b) s = .next { s with
      x := { s.x with opc := 0x07, dir := .write, op0 := ch, op1 := a, op2 := b, polls := 0, stale := false }
      pc := .xfCheck, response := none } ∧
    exec (.readByte ch a) s = .next { s with
      x := { s.x with opc := 0x08, dir := .read, op0 := ch, op1 := a, polls := 0, stale := false }
      pc := .xfCheck, response := none }

/-- R51, R108, R114, the guard: with `ch > 3` the command ends at once with the value 0 and the status OK, or
INVALID_ARGUMENT when STRICT_CHANNEL is set; nothing but latches and response changes, so no register is touched. [The
model's own: log 12.] -/
def Obligations.ChannelGuardTouchesNothing : Prop :=
  ∀ (s : State) (dir : Dir) (ch a b c e : Word), s.Clean → s.pc = .idle → s.hstate = .active → 3 < ch.toNat →
    exec (.setTiming dir ch a b c e) s = .next { s with
      x := { s.x with opc := 0x06, dir := dir, op0 := ch, op1 := a, op2 := b, op3 := c, op4 := e }
      response := some ⟨if s.cfg.strictChannel then .invalidArgument else .ok, 0⟩ } ∧
    exec (.writeByte ch a b) s = .next { s with
      x := { s.x with opc := 0x07, dir := .write, op0 := ch, op1 := a, op2 := b, polls := 0, stale := false }
      response := some ⟨if s.cfg.strictChannel then .invalidArgument else .ok, 0⟩ } ∧
    exec (.readByte ch a) s = .next { s with
      x := { s.x with opc := 0x08, dir := .read, op0 := ch, op1 := a, polls := 0, stale := false }
      response := some ⟨if s.cfg.strictChannel then .invalidArgument else .ok, 0⟩ }

/-! ### Whole commands, as runs of the controller -/

/-- R99, R100: CONFIGURE_CLOCK from any clock state: exactly the three password-gated writes, and then `clockOK`. [The
model's own: log 1, 5.] -/
def Obligations.ConfigureClockEndsWithTheClockRunning : Prop :=
  ∀ (s : State) (ws : List Word) (ts : List Turn),
    s.Clean → s.pc = .idle → s.hstate = .active → s.port = 0x00000003 :: ws →
    s.schedule = .host :: (List.replicate 4 .controller ++ ts) →
    ∃ t, run 5 s = .next t ∧ t.clockOK = true ∧ t = { s with
      x := { s.x with opc := 0x03 }
      port := ws, schedule := ts, response := some ⟨.ok, 0⟩
      clk := ⟨true, 6, 4, 0⟩
      history := s.history ++ [.write 0x120 0x5A000000, .write 0x121 0x5A004000, .write 0x120 0x5A000016] }

/-- The sixteen requests of a pin loop, in ascending order (R104). -/
def pinRequests (f : BitVec 3) : List Event :=
  (List.range 16).map fun p => .write (0x140#9 + BitVec.ofNat 9 p) (f.setWidth 32)

/-- R104, R105, R106, R107: the pin commands make exactly sixteen requests and leave every pin with the code, whatever
the pins were before. [The model's own: log 1, 5.] -/
def Obligations.PinCommandsSetEveryPin : Prop :=
  ∀ (s : State) (ws : List Word) (ts : List Turn) (opc : BitVec 8) (f : BitVec 3),
    s.Clean → s.pc = .idle → s.hstate = .active →
    ((opc = 0x04 ∧ f = 0b101) ∨ (opc = 0x05 ∧ f = 0b000)) → s.port = opc.setWidth 32 :: ws →
    s.schedule = .host :: (List.replicate 17 .controller ++ ts) →
    run 18 s = .next { s with
      x := { s.x with opc := opc, k := 15, fsel := f }
      port := ws, schedule := ts, response := some ⟨.ok, 0⟩
      fsel := Vector.replicate 16 f
      history := s.history ++ pinRequests f }

/-- R134: DEACTIVATE makes the sixteen requests, then the handle is UNMAPPED; the clock, the slots, DCS, DA, DD and a
transfer in flight keep their values (R154). [The model's own: log 1, 5.] -/
def Obligations.DeactivateReleasesTheHandle : Prop :=
  ∀ (s : State) (ws : List Word) (ts : List Turn),
    s.Clean → s.pc = .idle → s.hstate = .active → s.port = 0x00000002 :: ws →
    s.schedule = .host :: (List.replicate 18 .controller ++ ts) →
    run 19 s = .next { s with
      x := { s.x with opc := 0x02, k := 15, fsel := 0b000 }
      port := ws, schedule := ts, response := some ⟨.ok, 0⟩, hstate := .unmapped
      fsel := Vector.replicate 16 0b000
      history := s.history ++ pinRequests 0b000 }

/-- The word that activation leaves in every slot: the default counts, reduced modulo their widths (R132). -/
def defaultSlotWord (c : Params) : Word :=
  BitVec.ofNat 32 (c.defaultSetup.toNat % 64 * 2 ^ 24 + c.defaultHold.toNat % 64 * 2 ^ 16 +
    c.defaultPace.toNat % 128 * 2 ^ 8 + c.defaultStrobe.toNat % 128)

/-- The three transactions on slot k of the slot set-up (R132). -/
def slotSetupTrace (c : Params) (k : Nat) : List Event :=
  [.write (0x104#9 + BitVec.ofNat 9 k) 0, .read (0x004#9 + BitVec.ofNat 9 k) 0,
   .write (0x104#9 + BitVec.ofNat 9 k) (defaultSlotWord c)]

/-- R131, R132, R133: a successful ACTIVATE issues exactly its 43 transactions in order, answers (OK, 1), and leaves
the clock running at 125 MHz, every pin in the SMI function and every slot at the default word; DCS, DA, DD and CS are
not touched. [The model's own: log 1, 5, 17.] -/
def Obligations.ActivateSetsUpTheBlock : Prop :=
  ∀ (s : State) (ws : List Word) (ts : List Turn),
    s.Clean → s.pc = .idle → s.hstate ≠ .active → mapOutcome s = true → s.port = 0x00000001 :: ws →
    s.schedule = .host :: (List.replicate 44 .controller ++ ts) →
    run 45 s = .next { s with
      x := { s.x with opc := 0x01, k := 7, fsel := 0b101, tmp := 0 }
      port := ws, schedule := ts, draws := s.draws + 1, maps := s.maps.tail
      response := some ⟨.ok, 1⟩, hstate := .active
      clk := ⟨true, 6, 4, 0⟩
      fsel := Vector.replicate 16 0b101
      slot := Vector.replicate 8 (defaultSlotWord s.cfg)
      history := s.history ++
        ([.write 0x120 0x5A000000, .write 0x121 0x5A004000, .write 0x120 0x5A000016] ++ pinRequests 0b101 ++
          (List.range 8).flatMap (slotSetupTrace s.cfg)) }

/-- R108, R110, R111: SET_TIMING on channel ch, direction dir: exactly one read and one write of the slot `2*ch +
dir`; the four count fields become the operands modulo their widths, every other bit of the slot is kept, and no other
slot changes. [The model's own: log 1, 5.] -/
def Obligations.SetTimingKeepsTheStaticFlags : Prop :=
  ∀ (s : State) (ws : List Word) (ts : List Turn) (dir : Dir) (ch setup strobe hold pace : Word) (k : Fin 8),
    s.Clean → s.pc = .idle → s.hstate = .active → ch.toNat ≤ 3 →
    k.val = 2 * ch.toNat + (match dir with | .read => 0 | .write => 1) →
    s.port = (match dir with | .read => 0x00000006 | .write => 0x00000106) :: ch :: setup :: strobe :: hold :: pace :: ws →
    s.schedule = .host :: (List.replicate 3 .controller ++ ts) →
    ∃ new : Word, run 4 s = .next { s with
      x := { s.x with
        opc := 0x06, dir := dir, op0 := ch, op1 := setup, op2 := strobe, op3 := hold, op4 := pace, tmp := s.slot[k] }
      port := ws, schedule := ts, response := some ⟨.ok, 0⟩
      slot := s.slot.set k new
      history := s.history ++
        [.read (0x004#9 + BitVec.ofNat 9 k) s.slot[k], .write (0x104#9 + BitVec.ofNat 9 k) new] } ∧
      new &&& 0xC0C08080 = s.slot[k] &&& 0xC0C08080 ∧
      new.extractLsb' 24 6 = setup.setWidth 6 ∧ new.extractLsb' 0 7 = strobe.setWidth 7 ∧
      new.extractLsb' 16 6 = hold.setWidth 6 ∧ new.extractLsb' 8 7 = pace.setWidth 7

/-- The turns of a transfer that completes after `q` polls that find DONE clear: the host, the phases up to the trigger
(`early` of them), the polls, the engine, the last poll and the `late` phases after it. -/
def transferTurns (early q late : Nat) : List Turn :=
  .host :: (List.replicate (early + q) .controller ++ (.engine :: List.replicate (1 + late) .controller))

/-- What a transfer needs to run to its end when `q` polls find DONE clear: a channel in range, nothing in flight, the
clock, an 8-bit slot, and a poll that is unbounded or bounded by more than `q` reads (R120, R123, R124). -/
structure TransferReady (s : State) (ch : Word) (dir : Dir) (q : Nat) : Prop where
  clean : s.Clean
  idle : s.pc = .idle
  active : s.hstate = .active
  channel : ch.toNat ≤ 3
  pending : s.pending = none
  clock : s.clockOK = true
  width : slotWidth s.slot[slotNumber (channelOf ch) dir] = 0
  bound : ∀ n, s.cfg.pollLimit = some n → q < n

/-- R123: WRITE_BYTE with p = q + 1 polls, unbounded or within POLL_LIMIT: exactly its trace, the response (OK, 0),
and DONE, ENABLE and WRITE clear and nothing in flight at the end (R125, R126). [The model's own: log 1, 5.] -/
def Obligations.WriteByteRunsItsEightSteps : Prop :=
  ∀ (s : State) (ws : List Word) (ts : List Turn) (ch addr data : Word) (q : Nat),
    TransferReady s ch .write q → s.port = 0x00000007 :: ch :: addr :: data :: ws →
    s.schedule = transferTurns (4 + s.dcs.done.toNat) q 2 ++ ts →
    ∃ t : State, run (9 + s.dcs.done.toNat + q) s = .next t ∧
      t.pc = .idle ∧ t.response = some ⟨.ok, 0⟩ ∧ t.dcs = ⟨false, false, false⟩ ∧ t.pending = none ∧
      t.da = BitVec.ofNat 32 (ch.toNat * 256 + addr.toNat % 64) ∧ t.dd = BitVec.ofNat 32 (data.toNat % 256) ∧
      t.trace = s.trace ++
        ([dcsReadShown s.dcs.done] ++ (if s.dcs.done then [.write 0x10D 0x4] else []) ++
          [.write 0x10E (BitVec.ofNat 32 (ch.toNat * 256 + addr.toNat % 64)),
           .write 0x10F (BitVec.ofNat 32 (data.toNat % 256)), .write 0x10D 0xB] ++
          List.replicate q (dcsReadShown false) ++
          [.device (channelOf ch) (addr.setWidth 6) .write (data.setWidth 8) s.driven, dcsReadShown true,
           .write 0x10D 0x4]) ∧
      t.slot = s.slot ∧ t.fsel = s.fsel ∧ t.clk = s.clk ∧ t.hstate = s.hstate ∧ t.Clean ∧
      t.cfg = s.cfg ∧ t.cs = s.cs ∧ t.port = ws ∧ t.schedule = ts

/-- R124: READ_BYTE with p = q + 1 polls, unbounded or within POLL_LIMIT: exactly its trace, and the response (OK,
zext_32(b)) with the byte b that the device delivered: the oracle's, or in the loopback configuration the latest
driven write's (R98), or any value when the pins are not driven (R97). [The model's own: log 1, 5, 15.] -/
def Obligations.ReadByteReturnsTheDevicesByte : Prop :=
  ∀ (s : State) (ws : List Word) (ts : List Turn) (ch addr : Word) (q : Nat),
    TransferReady s ch .read q → s.port = 0x00000008 :: ch :: addr :: ws →
    s.schedule = transferTurns (3 + s.dcs.done.toNat) q 3 ++ ts →
    ∃ (t : State) (b : Byte), run (9 + s.dcs.done.toNat + q) s = .next t ∧
      t.pc = .idle ∧ t.response = some ⟨.ok, b.setWidth 32⟩ ∧ t.dcs = ⟨false, false, false⟩ ∧ t.pending = none ∧
      t.da = BitVec.ofNat 32 (ch.toNat * 256 + addr.toNat % 64) ∧ t.dd.setWidth 8 = b ∧
      t.trace = s.trace ++
        ([dcsReadShown s.dcs.done] ++ (if s.dcs.done then [.write 0x10D 0x4] else []) ++
          [.write 0x10E (BitVec.ofNat 32 (ch.toNat * 256 + addr.toNat % 64)), .write 0x10D 0x3] ++
          List.replicate q (dcsReadShown false) ++
          [.device (channelOf ch) (addr.setWidth 6) .read b s.driven, dcsReadShown true,
           .read 0x00F (b.setWidth 32), .write 0x10D 0x4]) ∧
      (s.driven = true → s.cfg.device = .loopback →
        ∀ a, lastDrivenWrite (channelOf ch) (addr.setWidth 6) s.history = some a → b = a) ∧
      t.slot = s.slot ∧ t.fsel = s.fsel ∧ t.clk = s.clk ∧ t.hstate = s.hstate ∧ t.Clean ∧
      t.cfg = s.cfg ∧ t.cs = s.cs ∧ t.port = ws ∧ t.schedule = ts

/-- R130: against the loopback device, with the pins in the SMI function and 8-bit slots, a byte written to an address
is the byte read from it. [The model's own: log 1, 5, 15.] -/
def Obligations.LoopbackReadReturnsTheByteWritten : Prop :=
  ∀ (s : State) (ws : List Word) (ts : List Turn) (ch addr data : Word) (q r : Nat),
    TransferReady s ch .write q → TransferReady s ch .read r → s.driven = true → s.cfg.device = .loopback →
    s.port = 0x00000007 :: ch :: addr :: data :: 0x00000008 :: ch :: addr :: ws →
    s.schedule = transferTurns (4 + s.dcs.done.toNat) q 2 ++ (transferTurns 3 r 3 ++ ts) →
    ∃ t : State, run (18 + s.dcs.done.toNat + q + r) s = .next t ∧
      t.response = some ⟨.ok, BitVec.ofNat 32 (data.toNat % 256)⟩

/-! ### The poll loop (R120, R128, R129) -/

/-- R128: with the unbounded poll and no completion, the controller polls forever: for every number of steps the block
is still in XF_POLL, and no response is given. [The model's own: log 1.] -/
def Obligations.UnansweredPollNeverEnds : Prop :=
  ∀ (s : State) (n : Nat), s.Clean → s.pc = .xfPoll → s.dcs.done = false → s.cfg.pollLimit = none →
    s.response = none → s.schedule = [] → (s.cfg.busResponds = false ∨ s.pending = none ∨ s.clockOK = false) →
    ∃ t, run n s = .next t ∧ t.pc = .xfPoll ∧ t.response = none ∧ t.pending = s.pending ∧
      t.history.length = s.history.length + n

/-- R120, with `POLL_LIMIT = some n`: a poll loop that never finds DONE reads DCS exactly n times and then answers
(TIMEOUT, 0), and the transfer is still in flight (R129). [The model's own: log 1, 20.] -/
def Obligations.BoundedPollTimesOut : Prop :=
  ∀ (s : State) (n : Nat) (ts : List Turn), s.Clean → s.pc = .xfPoll → s.dcs.done = false →
    1 ≤ n → n < 2 ^ 32 → s.cfg.pollLimit = some n → s.x.polls = 0 → s.schedule = List.replicate n .controller ++ ts →
    ∃ t, run n s = .next t ∧ t.pc = .idle ∧ t.response = some ⟨.timeout, 0⟩ ∧ t.pending = s.pending ∧ t.dcs = s.dcs ∧
      t.trace = s.trace ++ List.replicate n (dcsReadShown false) ∧ t.schedule = ts

/-- R129: XF_TRIGGER while a transfer of an earlier, timed-out command is in flight faults with F_START_WHILE_PENDING,
and the write has no effect. -/
def Obligations.TriggerOverAnOldTransferFaults : Prop :=
  ∀ (s : State) (x : Xfer), s.Clean → s.pc = .xfTrigger → s.pending = some x →
    ∃ v : Word, v = (match s.x.dir with | .write => 0x0000000B | .read => 0x00000003) ∧
      controllerStep s = .next { s with
        fault := some ⟨.startWhilePending, .xfTrigger, some (0x10D, some v)⟩
        history := s.history ++ [.faulted 0x10D (some v) .startWhilePending] }

/-! ### The engine (R97, R142) -/

/-- R97: the completion of a read, one atomic step, also after a fault (R142): the low byte of DD is the device
event's byte, DONE is set, nothing is in flight. [The model's own: log 1, 3, 15.] -/
def Obligations.EngineCompletesARead : Prop :=
  ∀ (s : State) (ts : List Turn) (x : Xfer), s.schedule = .engine :: ts → s.pending = some x → x.dir = .read →
    s.clockOK = true →
    ∃ dd : Word, step s = .next { s with
        schedule := ts, pending := none, dd := dd, draws := s.draws + 1, dcs := { s.dcs with done := true }
        history := s.history ++ [.device x.ch x.addr .read (dd.setWidth 8) s.driven] } ∧
      (s.driven = true → s.cfg.device = .loopback →
        ∀ b, lastDrivenWrite x.ch x.addr s.history = some b → dd.setWidth 8 = b) ∧
      (s.driven = true ↔ ∀ p : Fin 16, s.fsel[p] = 0b101)

/-- R97: the completion of a write, and the turn of an engine that is not enabled, in which nothing moves. [The
model's own: log 1, 26.] -/
def Obligations.EngineCompletesAWrite : Prop :=
  ∀ (s : State) (ts : List Turn), s.schedule = .engine :: ts →
    (∀ x, s.pending = some x → x.dir = .write → s.clockOK = true →
      step s = .next { s with
        schedule := ts, pending := none, dcs := { s.dcs with done := true }
        history := s.history ++ [.device x.ch x.addr .write x.wbyte s.driven] }) ∧
    (s.pending = none ∨ s.clockOK = false → step s = .next { s with schedule := ts })

/-- R97 where BUS_RESPONDS is assumed, under the model's own schedule (nothing scheduled; log 1): a poll with a
transfer in flight and the clock running ends with the response OK, in five steps for a read and four for a write, and
leaves DONE clear and nothing in flight (R126). [The model's own: log 1.] -/
def Obligations.RespondingBusEndsThePoll : Prop :=
  ∀ (s : State) (x : Xfer), s.Clean → s.pc = .xfPoll → s.pending = some x → s.clockOK = true →
    s.cfg.busResponds = true → s.schedule = [] →
    ∃ (t : State) (v : Word), run (match s.x.dir with | .read => 5 | .write => 4) s = .next t ∧
      t.pc = .idle ∧ t.response = some ⟨.ok, v⟩ ∧ t.pending = none ∧ t.dcs.done = false

/-! ### Invariants and whole-machine rules -/

/-- Every step keeps the controller's invariant, whoever moves, a harness too: the latches fit the phase (R14, R15),
there is a response only in IDLE (R17), a transfer in flight goes through an 8-bit slot (R86), and the refused mark
and the reason of the latest refusal, the model's own field, go together (R139). [The model's own: log 8, 9, 12.] -/
def Obligations.EveryStepKeepsTheInvariant : Prop :=
  ∀ s t : State, s.Inv → step s = .next t → t.Inv

/-- R99, R138, R151: while only the controller drives the bus, no command sequence faults on the clock or on an
unlisted access: a fault is one of admission, or F_START_WHILE_PENDING at XF_TRIGGER. [The model's own: log 1, 9.] -/
def Obligations.CommandSequencesDoNotFaultOnTheirOwnAccesses : Prop :=
  ∀ s t : State, s.Inv → s.clockFits = true → s.quiet → step s = .next t →
    t.clockFits = true ∧
    ∀ f, s.fault = none → t.fault = some f →
      f.reason = .overlap ∨ f.reason = .unavailable ∨ f.reason = .unpaired ∨
      (f.reason = .startWhilePending ∧ s.pc = .xfTrigger ∧ s.pending ≠ none)

/-- R101: while only the controller drives the bus, the clock runs at F_SMI whenever a timing or transfer phase is
next. [The model's own: log 1, 9.] -/
def Obligations.TheClockRunsBeforeTimingAndTransfers : Prop :=
  (∀ s t : State, s.clockReady = true → s.quiet → step s = .next t → t.clockReady = true) ∧
  (∀ s : State, s.Inv → s.clockReady = true → s.pc.isTransfer = true ∨ s.pc = .timRead ∨ s.pc = .timWrite →
    s.clockOK = true)

/-- R126, R127, with the unbounded poll: where a transfer may be in flight. So a transfer that is about to answer OK
has DONE clear and nothing in flight, and no START ever meets an old transfer. [The model's own: log 1, 9, 27.] -/
def Obligations.UnboundedTransfersLeaveNothingInFlight : Prop :=
  ∀ s t : State, s.Inv → s.transferFits = true → s.cfg.pollLimit = none → s.quiet → step s = .next t →
    t.transferFits = true ∧ (∀ f, s.fault = none → t.fault = some f → f.reason ≠ .startWhilePending) ∧
    (s.pc = .respond → s.x.opc = 0x07 ∨ s.x.opc = 0x08 → s.dcs.done = false ∧ s.pending = none)

/-- R10, R34: the history is only ever appended to, by at most one event a step (R9, R41, R42). -/
def Obligations.HistoryOnlyGrowsByOneEvent : Prop :=
  ∀ s t : State, step s = .next t → t.history = s.history ∨ ∃ e, t.history = s.history ++ [e]

/-- R16, R142, R143: the marks are sticky, and after a fault only an engine completion can still happen: no latch,
phase, response, handle, slot, clock field or pin changes. [The model's own: log 7.] -/
def Obligations.MarksAreStickyAndAFaultStopsTheController : Prop :=
  ∀ s t : State, step s = .next t →
    (s.refused = true → t.refused = true) ∧
    (∀ f, s.fault = some f → t.fault = some f ∧ t.pc = s.pc ∧ t.x = s.x ∧ t.response = s.response ∧
      t.hstate = s.hstate ∧ t.slot = s.slot ∧ t.da = s.da ∧ t.clk = s.clk ∧ t.fsel = s.fsel ∧ t.port = s.port ∧
      (t.history = s.history ∨ ∃ c a d b w, t.history = s.history ++ [.device c a d b w]))

/-- R142: a fault is precise. The step that faults changes nothing but the fault mark and the history (and uses up its
turn and the words of its command); the record names the phase, and a faulting transaction is in the history with its
reason. [The model's own: log 5, 10.] -/
def Obligations.FaultsArePrecise : Prop :=
  ∀ (s t : State) (f : FaultRecord), step s = .next t → s.fault = none → t.fault = some f →
    t = { s with fault := some f, history := t.history, schedule := s.schedule.tail, port := s.portAfterTurn } ∧
    f.phase = s.pc ∧
    (f.bus = none ∧ t.history = s.history ∨
     ∃ d v, f.bus = some (d, v) ∧ t.history = s.history ++ [.faulted d v f.reason])

/-- R13: only ACTIVATE's acceptance and DEACT_RELEASE change the handle. [The model's own: log 1.] -/
def Obligations.OnlyActivationChangesTheHandle : Prop :=
  ∀ s t : State, step s = .next t → t.hstate ≠ s.hstate →
    (s.pc = .idle ∧ s.hstate ≠ .active ∧ t.x.opc = 0x01 ∧ s.schedule.head? = some .host ∧
      ((t.hstate = .active ∧ t.pc = .clkDisable) ∨
       (t.hstate = .failed ∧ t.response = some ⟨.unavailable, 0⟩ ∧ t.history = s.history))) ∨
    (s.pc = .deactRelease ∧ t.hstate = .unmapped ∧ t.pc = .respond)

/-- R30: DONE is set only by an engine completion, and cleared only by a DCS write with bit 2 set (which may have been
refused for its slot's width, after the clear). -/
def Obligations.DoneIsSetByTheEngineAndClearedByWrites : Prop :=
  ∀ s t : State, step s = .next t →
    (s.dcs.done = false → t.dcs.done = true →
      (∃ x, s.pending = some x) ∧ s.clockOK = true ∧ t.pending = none ∧
      ∃ c a d b w, t.history = s.history ++ [.device c a d b w]) ∧
    (s.dcs.done = true → t.dcs.done = false →
      ∃ v : Word, v.getLsbD 2 = true ∧
        (t.history = s.history ++ [.write 0x10D v] ∨ t.history = s.history ++ [.refused 0x10D (some v) .width]))

/-- R26: a transfer in flight comes only from a DCS write with START and ENABLE, sampled from DA, DD and the slot, and
goes only by an engine completion; nothing else changes it (R158). -/
def Obligations.PendingComesFromStartAndGoesByCompletion : Prop :=
  ∀ s t : State, step s = .next t → t.pending ≠ s.pending →
    (∃ (v : Word) (x : Xfer), s.pending = none ∧ t.pending = some x ∧ v.getLsbD 1 = true ∧ v.getLsbD 0 = true ∧
      t.history = s.history ++ [.write 0x10D v] ∧ x.ch = s.da.extractLsb' 8 2 ∧ x.addr = s.da.extractLsb' 0 6 ∧
      x.dir = (if v.getLsbD 3 then .write else .read) ∧ x.wbyte = s.dd.extractLsb' 0 8 ∧
      x.slot = s.slot[slotNumber x.ch x.dir]) ∨
    (∃ x, s.pending = some x ∧ t.pending = none ∧ s.clockOK = true ∧ t.dcs.done = true)

/-- R22, R31: a slot changes only by a recorded write to its own index, and takes the word written. -/
def Obligations.SlotsChangeOnlyByTheirOwnWrites : Prop :=
  ∀ (s t : State) (k : Fin 8), step s = .next t → t.slot[k] ≠ s.slot[k] →
    t.history = s.history ++ [.write (0x104#9 + BitVec.ofNat 9 k) t.slot[k]]

/-- R27, R93, R94: the clock fields change only by a recorded write with the password; DIV's only while the generator
is stopped. -/
def Obligations.ClockChangesOnlyByPasswordWrites : Prop :=
  ∀ s t : State, step s = .next t → t.clk ≠ s.clk →
    ∃ v : Word, v.toNat / 2 ^ 24 = 0x5A ∧
      ((t.history = s.history ++ [.write 0x120 v] ∧ t.clk.divi = s.clk.divi ∧ t.clk.divf = s.clk.divf) ∨
       (t.history = s.history ++ [.write 0x121 v] ∧ s.clk.enab = false ∧ t.clk.enab = false ∧ t.clk.src = s.clk.src))

/-- R19, R39, R155: no step changes CS or a parameter of the model. [The model's own: log 2, 25.] -/
def Obligations.CsAndParametersNeverChange : Prop :=
  ∀ s t : State, step s = .next t → t.cs = s.cs ∧ t.cfg = s.cfg

/-- Outside the direct-transfer phases: a completion changes nothing the controller's phase depends on, the phase does
the same whatever the engine has done (R97, R41), and the phase leaves the transfer in flight, DCS, DA and DD as they
are. The phase can still put a completion off (the clock) or change what it reaches (the pins), R97. -/
def Obligations.EngineDoesNotDisturbOtherCommands : Prop :=
  ∀ s t : State, (engineStep s).withoutEngine = s.withoutEngine ∧
    (s.Inv → s.pc.isTransfer = false → s.withoutEngine = t.withoutEngine →
      (phaseStep s).withoutEngine = (phaseStep t).withoutEngine) ∧
    (s.Inv → s.pc.isTransfer = false →
      (phaseStep s).pending = s.pending ∧ (phaseStep s).dcs = s.dcs ∧ (phaseStep s).da = s.da ∧
      (phaseStep s).dd = s.dd)

/-- R149: while a command is in progress, a step is a phase of the controller or the engine's; a request of the host
or of a harness is turned away with F_OVERLAP, with nothing else of the block changed, and a host's turn with no whole
command on the port changes nothing. [The model's own: log 1, 5, 9.] -/
def Obligations.OnlyTheEngineRunsBesideTheController : Prop :=
  ∀ s t : State, s.pc ≠ .idle → s.fault = none → step s = .next t →
    t = phaseStep s.afterTurn ∨ t = engineStep s.afterTurn ∨
    ((s.schedule.head? = some .host ∨ ∃ r, s.schedule.head? = some (.bus r)) ∧
      (t = { s with
          schedule := s.schedule.tail, port := s.portAfterTurn, fault := some ⟨.overlap, s.pc, none⟩ } ∨
       (decodeCommand s.port = .error .incomplete ∧ t = s.afterTurn)))
end

