-- ==== Sys2Proof/Laws/State.lean ====
section
/-! SUPPORT. One lemma per field per update of State, each true by rfl, so that no later proof unfolds a record update. -/

namespace Sys2Proof.Machine

/-! ### setPc -/

@[simp] theorem State.setPc_cfg (s : State) (p : Phase) : (s.setPc p).cfg = s.cfg := rfl
@[simp] theorem State.setPc_pc (s : State) (p : Phase) : (s.setPc p).pc = p := rfl
@[simp] theorem State.setPc_hstate (s : State) (p : Phase) : (s.setPc p).hstate = s.hstate := rfl
@[simp] theorem State.setPc_x (s : State) (p : Phase) : (s.setPc p).x = s.x := rfl
@[simp] theorem State.setPc_fault (s : State) (p : Phase) : (s.setPc p).fault = s.fault := rfl
@[simp] theorem State.setPc_refused (s : State) (p : Phase) : (s.setPc p).refused = s.refused := rfl
@[simp] theorem State.setPc_refusal (s : State) (p : Phase) : (s.setPc p).refusal = s.refusal := rfl
@[simp] theorem State.setPc_response (s : State) (p : Phase) : (s.setPc p).response = s.response := rfl
@[simp] theorem State.setPc_cs (s : State) (p : Phase) : (s.setPc p).cs = s.cs := rfl
@[simp] theorem State.setPc_slot (s : State) (p : Phase) : (s.setPc p).slot = s.slot := rfl
@[simp] theorem State.setPc_dcs (s : State) (p : Phase) : (s.setPc p).dcs = s.dcs := rfl
@[simp] theorem State.setPc_da (s : State) (p : Phase) : (s.setPc p).da = s.da := rfl
@[simp] theorem State.setPc_dd (s : State) (p : Phase) : (s.setPc p).dd = s.dd := rfl
@[simp] theorem State.setPc_pending (s : State) (p : Phase) : (s.setPc p).pending = s.pending := rfl
@[simp] theorem State.setPc_clk (s : State) (p : Phase) : (s.setPc p).clk = s.clk := rfl
@[simp] theorem State.setPc_fsel (s : State) (p : Phase) : (s.setPc p).fsel = s.fsel := rfl
@[simp] theorem State.setPc_history (s : State) (p : Phase) : (s.setPc p).history = s.history := rfl
@[simp] theorem State.setPc_draws (s : State) (p : Phase) : (s.setPc p).draws = s.draws := rfl
@[simp] theorem State.setPc_port (s : State) (p : Phase) : (s.setPc p).port = s.port := rfl
@[simp] theorem State.setPc_schedule (s : State) (p : Phase) : (s.setPc p).schedule = s.schedule := rfl
@[simp] theorem State.setPc_maps (s : State) (p : Phase) : (s.setPc p).maps = s.maps := rfl

/-! ### setHstate -/

@[simp] theorem State.setHstate_cfg (s : State) (h : HState) : (s.setHstate h).cfg = s.cfg := rfl
@[simp] theorem State.setHstate_pc (s : State) (h : HState) : (s.setHstate h).pc = s.pc := rfl
@[simp] theorem State.setHstate_hstate (s : State) (h : HState) : (s.setHstate h).hstate = h := rfl
@[simp] theorem State.setHstate_x (s : State) (h : HState) : (s.setHstate h).x = s.x := rfl
@[simp] theorem State.setHstate_fault (s : State) (h : HState) : (s.setHstate h).fault = s.fault := rfl
@[simp] theorem State.setHstate_refused (s : State) (h : HState) : (s.setHstate h).refused = s.refused := rfl
@[simp] theorem State.setHstate_refusal (s : State) (h : HState) : (s.setHstate h).refusal = s.refusal := rfl
@[simp] theorem State.setHstate_response (s : State) (h : HState) : (s.setHstate h).response = s.response := rfl
@[simp] theorem State.setHstate_cs (s : State) (h : HState) : (s.setHstate h).cs = s.cs := rfl
@[simp] theorem State.setHstate_slot (s : State) (h : HState) : (s.setHstate h).slot = s.slot := rfl
@[simp] theorem State.setHstate_dcs (s : State) (h : HState) : (s.setHstate h).dcs = s.dcs := rfl
@[simp] theorem State.setHstate_da (s : State) (h : HState) : (s.setHstate h).da = s.da := rfl
@[simp] theorem State.setHstate_dd (s : State) (h : HState) : (s.setHstate h).dd = s.dd := rfl
@[simp] theorem State.setHstate_pending (s : State) (h : HState) : (s.setHstate h).pending = s.pending := rfl
@[simp] theorem State.setHstate_clk (s : State) (h : HState) : (s.setHstate h).clk = s.clk := rfl
@[simp] theorem State.setHstate_fsel (s : State) (h : HState) : (s.setHstate h).fsel = s.fsel := rfl
@[simp] theorem State.setHstate_history (s : State) (h : HState) : (s.setHstate h).history = s.history := rfl
@[simp] theorem State.setHstate_draws (s : State) (h : HState) : (s.setHstate h).draws = s.draws := rfl
@[simp] theorem State.setHstate_port (s : State) (h : HState) : (s.setHstate h).port = s.port := rfl
@[simp] theorem State.setHstate_schedule (s : State) (h : HState) : (s.setHstate h).schedule = s.schedule := rfl
@[simp] theorem State.setHstate_maps (s : State) (h : HState) : (s.setHstate h).maps = s.maps := rfl

/-! ### setX -/

@[simp] theorem State.setX_cfg (s : State) (x : Latches) : (s.setX x).cfg = s.cfg := rfl
@[simp] theorem State.setX_pc (s : State) (x : Latches) : (s.setX x).pc = s.pc := rfl
@[simp] theorem State.setX_hstate (s : State) (x : Latches) : (s.setX x).hstate = s.hstate := rfl
@[simp] theorem State.setX_x (s : State) (x : Latches) : (s.setX x).x = x := rfl
@[simp] theorem State.setX_fault (s : State) (x : Latches) : (s.setX x).fault = s.fault := rfl
@[simp] theorem State.setX_refused (s : State) (x : Latches) : (s.setX x).refused = s.refused := rfl
@[simp] theorem State.setX_refusal (s : State) (x : Latches) : (s.setX x).refusal = s.refusal := rfl
@[simp] theorem State.setX_response (s : State) (x : Latches) : (s.setX x).response = s.response := rfl
@[simp] theorem State.setX_cs (s : State) (x : Latches) : (s.setX x).cs = s.cs := rfl
@[simp] theorem State.setX_slot (s : State) (x : Latches) : (s.setX x).slot = s.slot := rfl
@[simp] theorem State.setX_dcs (s : State) (x : Latches) : (s.setX x).dcs = s.dcs := rfl
@[simp] theorem State.setX_da (s : State) (x : Latches) : (s.setX x).da = s.da := rfl
@[simp] theorem State.setX_dd (s : State) (x : Latches) : (s.setX x).dd = s.dd := rfl
@[simp] theorem State.setX_pending (s : State) (x : Latches) : (s.setX x).pending = s.pending := rfl
@[simp] theorem State.setX_clk (s : State) (x : Latches) : (s.setX x).clk = s.clk := rfl
@[simp] theorem State.setX_fsel (s : State) (x : Latches) : (s.setX x).fsel = s.fsel := rfl
@[simp] theorem State.setX_history (s : State) (x : Latches) : (s.setX x).history = s.history := rfl
@[simp] theorem State.setX_draws (s : State) (x : Latches) : (s.setX x).draws = s.draws := rfl
@[simp] theorem State.setX_port (s : State) (x : Latches) : (s.setX x).port = s.port := rfl
@[simp] theorem State.setX_schedule (s : State) (x : Latches) : (s.setX x).schedule = s.schedule := rfl
@[simp] theorem State.setX_maps (s : State) (x : Latches) : (s.setX x).maps = s.maps := rfl

/-! ### setFault -/

@[simp] theorem State.setFault_cfg (s : State) (f : FaultRecord) : (s.setFault f).cfg = s.cfg := rfl
@[simp] theorem State.setFault_pc (s : State) (f : FaultRecord) : (s.setFault f).pc = s.pc := rfl
@[simp] theorem State.setFault_hstate (s : State) (f : FaultRecord) : (s.setFault f).hstate = s.hstate := rfl
@[simp] theorem State.setFault_x (s : State) (f : FaultRecord) : (s.setFault f).x = s.x := rfl
@[simp] theorem State.setFault_fault (s : State) (f : FaultRecord) : (s.setFault f).fault = some f := rfl
@[simp] theorem State.setFault_refused (s : State) (f : FaultRecord) : (s.setFault f).refused = s.refused := rfl
@[simp] theorem State.setFault_refusal (s : State) (f : FaultRecord) : (s.setFault f).refusal = s.refusal := rfl
@[simp] theorem State.setFault_response (s : State) (f : FaultRecord) : (s.setFault f).response = s.response := rfl
@[simp] theorem State.setFault_cs (s : State) (f : FaultRecord) : (s.setFault f).cs = s.cs := rfl
@[simp] theorem State.setFault_slot (s : State) (f : FaultRecord) : (s.setFault f).slot = s.slot := rfl
@[simp] theorem State.setFault_dcs (s : State) (f : FaultRecord) : (s.setFault f).dcs = s.dcs := rfl
@[simp] theorem State.setFault_da (s : State) (f : FaultRecord) : (s.setFault f).da = s.da := rfl
@[simp] theorem State.setFault_dd (s : State) (f : FaultRecord) : (s.setFault f).dd = s.dd := rfl
@[simp] theorem State.setFault_pending (s : State) (f : FaultRecord) : (s.setFault f).pending = s.pending := rfl
@[simp] theorem State.setFault_clk (s : State) (f : FaultRecord) : (s.setFault f).clk = s.clk := rfl
@[simp] theorem State.setFault_fsel (s : State) (f : FaultRecord) : (s.setFault f).fsel = s.fsel := rfl
@[simp] theorem State.setFault_history (s : State) (f : FaultRecord) : (s.setFault f).history = s.history := rfl
@[simp] theorem State.setFault_draws (s : State) (f : FaultRecord) : (s.setFault f).draws = s.draws := rfl
@[simp] theorem State.setFault_port (s : State) (f : FaultRecord) : (s.setFault f).port = s.port := rfl
@[simp] theorem State.setFault_schedule (s : State) (f : FaultRecord) : (s.setFault f).schedule = s.schedule := rfl
@[simp] theorem State.setFault_maps (s : State) (f : FaultRecord) : (s.setFault f).maps = s.maps := rfl

/-! ### setResponse -/

@[simp] theorem State.setResponse_cfg (s : State) (r : Option Response) : (s.setResponse r).cfg = s.cfg := rfl
@[simp] theorem State.setResponse_pc (s : State) (r : Option Response) : (s.setResponse r).pc = s.pc := rfl
@[simp] theorem State.setResponse_hstate (s : State) (r : Option Response) : (s.setResponse r).hstate = s.hstate := rfl
@[simp] theorem State.setResponse_x (s : State) (r : Option Response) : (s.setResponse r).x = s.x := rfl
@[simp] theorem State.setResponse_fault (s : State) (r : Option Response) : (s.setResponse r).fault = s.fault := rfl
@[simp] theorem State.setResponse_refused (s : State) (r : Option Response) : (s.setResponse r).refused = s.refused := rfl
@[simp] theorem State.setResponse_refusal (s : State) (r : Option Response) : (s.setResponse r).refusal = s.refusal := rfl
@[simp] theorem State.setResponse_response (s : State) (r : Option Response) : (s.setResponse r).response = r := rfl
@[simp] theorem State.setResponse_cs (s : State) (r : Option Response) : (s.setResponse r).cs = s.cs := rfl
@[simp] theorem State.setResponse_slot (s : State) (r : Option Response) : (s.setResponse r).slot = s.slot := rfl
@[simp] theorem State.setResponse_dcs (s : State) (r : Option Response) : (s.setResponse r).dcs = s.dcs := rfl
@[simp] theorem State.setResponse_da (s : State) (r : Option Response) : (s.setResponse r).da = s.da := rfl
@[simp] theorem State.setResponse_dd (s : State) (r : Option Response) : (s.setResponse r).dd = s.dd := rfl
@[simp] theorem State.setResponse_pending (s : State) (r : Option Response) : (s.setResponse r).pending = s.pending := rfl
@[simp] theorem State.setResponse_clk (s : State) (r : Option Response) : (s.setResponse r).clk = s.clk := rfl
@[simp] theorem State.setResponse_fsel (s : State) (r : Option Response) : (s.setResponse r).fsel = s.fsel := rfl
@[simp] theorem State.setResponse_history (s : State) (r : Option Response) : (s.setResponse r).history = s.history := rfl
@[simp] theorem State.setResponse_draws (s : State) (r : Option Response) : (s.setResponse r).draws = s.draws := rfl
@[simp] theorem State.setResponse_port (s : State) (r : Option Response) : (s.setResponse r).port = s.port := rfl
@[simp] theorem State.setResponse_schedule (s : State) (r : Option Response) : (s.setResponse r).schedule = s.schedule := rfl
@[simp] theorem State.setResponse_maps (s : State) (r : Option Response) : (s.setResponse r).maps = s.maps := rfl

/-! ### setSlot -/

@[simp] theorem State.setSlot_cfg (s : State) (k : Fin 8) (v : Word) : (s.setSlot k v).cfg = s.cfg := rfl
@[simp] theorem State.setSlot_pc (s : State) (k : Fin 8) (v : Word) : (s.setSlot k v).pc = s.pc := rfl
@[simp] theorem State.setSlot_hstate (s : State) (k : Fin 8) (v : Word) : (s.setSlot k v).hstate = s.hstate := rfl
@[simp] theorem State.setSlot_x (s : State) (k : Fin 8) (v : Word) : (s.setSlot k v).x = s.x := rfl
@[simp] theorem State.setSlot_fault (s : State) (k : Fin 8) (v : Word) : (s.setSlot k v).fault = s.fault := rfl
@[simp] theorem State.setSlot_refused (s : State) (k : Fin 8) (v : Word) : (s.setSlot k v).refused = s.refused := rfl
@[simp] theorem State.setSlot_refusal (s : State) (k : Fin 8) (v : Word) : (s.setSlot k v).refusal = s.refusal := rfl
@[simp] theorem State.setSlot_response (s : State) (k : Fin 8) (v : Word) : (s.setSlot k v).response = s.response := rfl
@[simp] theorem State.setSlot_cs (s : State) (k : Fin 8) (v : Word) : (s.setSlot k v).cs = s.cs := rfl
@[simp] theorem State.setSlot_slot (s : State) (k : Fin 8) (v : Word) : (s.setSlot k v).slot = s.slot.set k v := rfl
@[simp] theorem State.setSlot_dcs (s : State) (k : Fin 8) (v : Word) : (s.setSlot k v).dcs = s.dcs := rfl
@[simp] theorem State.setSlot_da (s : State) (k : Fin 8) (v : Word) : (s.setSlot k v).da = s.da := rfl
@[simp] theorem State.setSlot_dd (s : State) (k : Fin 8) (v : Word) : (s.setSlot k v).dd = s.dd := rfl
@[simp] theorem State.setSlot_pending (s : State) (k : Fin 8) (v : Word) : (s.setSlot k v).pending = s.pending := rfl
@[simp] theorem State.setSlot_clk (s : State) (k : Fin 8) (v : Word) : (s.setSlot k v).clk = s.clk := rfl
@[simp] theorem State.setSlot_fsel (s : State) (k : Fin 8) (v : Word) : (s.setSlot k v).fsel = s.fsel := rfl
@[simp] theorem State.setSlot_history (s : State) (k : Fin 8) (v : Word) : (s.setSlot k v).history = s.history := rfl
@[simp] theorem State.setSlot_draws (s : State) (k : Fin 8) (v : Word) : (s.setSlot k v).draws = s.draws := rfl
@[simp] theorem State.setSlot_port (s : State) (k : Fin 8) (v : Word) : (s.setSlot k v).port = s.port := rfl
@[simp] theorem State.setSlot_schedule (s : State) (k : Fin 8) (v : Word) : (s.setSlot k v).schedule = s.schedule := rfl
@[simp] theorem State.setSlot_maps (s : State) (k : Fin 8) (v : Word) : (s.setSlot k v).maps = s.maps := rfl

/-! ### setDcs -/

@[simp] theorem State.setDcs_cfg (s : State) (d : Dcs) : (s.setDcs d).cfg = s.cfg := rfl
@[simp] theorem State.setDcs_pc (s : State) (d : Dcs) : (s.setDcs d).pc = s.pc := rfl
@[simp] theorem State.setDcs_hstate (s : State) (d : Dcs) : (s.setDcs d).hstate = s.hstate := rfl
@[simp] theorem State.setDcs_x (s : State) (d : Dcs) : (s.setDcs d).x = s.x := rfl
@[simp] theorem State.setDcs_fault (s : State) (d : Dcs) : (s.setDcs d).fault = s.fault := rfl
@[simp] theorem State.setDcs_refused (s : State) (d : Dcs) : (s.setDcs d).refused = s.refused := rfl
@[simp] theorem State.setDcs_refusal (s : State) (d : Dcs) : (s.setDcs d).refusal = s.refusal := rfl
@[simp] theorem State.setDcs_response (s : State) (d : Dcs) : (s.setDcs d).response = s.response := rfl
@[simp] theorem State.setDcs_cs (s : State) (d : Dcs) : (s.setDcs d).cs = s.cs := rfl
@[simp] theorem State.setDcs_slot (s : State) (d : Dcs) : (s.setDcs d).slot = s.slot := rfl
@[simp] theorem State.setDcs_dcs (s : State) (d : Dcs) : (s.setDcs d).dcs = d := rfl
@[simp] theorem State.setDcs_da (s : State) (d : Dcs) : (s.setDcs d).da = s.da := rfl
@[simp] theorem State.setDcs_dd (s : State) (d : Dcs) : (s.setDcs d).dd = s.dd := rfl
@[simp] theorem State.setDcs_pending (s : State) (d : Dcs) : (s.setDcs d).pending = s.pending := rfl
@[simp] theorem State.setDcs_clk (s : State) (d : Dcs) : (s.setDcs d).clk = s.clk := rfl
@[simp] theorem State.setDcs_fsel (s : State) (d : Dcs) : (s.setDcs d).fsel = s.fsel := rfl
@[simp] theorem State.setDcs_history (s : State) (d : Dcs) : (s.setDcs d).history = s.history := rfl
@[simp] theorem State.setDcs_draws (s : State) (d : Dcs) : (s.setDcs d).draws = s.draws := rfl
@[simp] theorem State.setDcs_port (s : State) (d : Dcs) : (s.setDcs d).port = s.port := rfl
@[simp] theorem State.setDcs_schedule (s : State) (d : Dcs) : (s.setDcs d).schedule = s.schedule := rfl
@[simp] theorem State.setDcs_maps (s : State) (d : Dcs) : (s.setDcs d).maps = s.maps := rfl

/-! ### setDa -/

@[simp] theorem State.setDa_cfg (s : State) (v : Word) : (s.setDa v).cfg = s.cfg := rfl
@[simp] theorem State.setDa_pc (s : State) (v : Word) : (s.setDa v).pc = s.pc := rfl
@[simp] theorem State.setDa_hstate (s : State) (v : Word) : (s.setDa v).hstate = s.hstate := rfl
@[simp] theorem State.setDa_x (s : State) (v : Word) : (s.setDa v).x = s.x := rfl
@[simp] theorem State.setDa_fault (s : State) (v : Word) : (s.setDa v).fault = s.fault := rfl
@[simp] theorem State.setDa_refused (s : State) (v : Word) : (s.setDa v).refused = s.refused := rfl
@[simp] theorem State.setDa_refusal (s : State) (v : Word) : (s.setDa v).refusal = s.refusal := rfl
@[simp] theorem State.setDa_response (s : State) (v : Word) : (s.setDa v).response = s.response := rfl
@[simp] theorem State.setDa_cs (s : State) (v : Word) : (s.setDa v).cs = s.cs := rfl
@[simp] theorem State.setDa_slot (s : State) (v : Word) : (s.setDa v).slot = s.slot := rfl
@[simp] theorem State.setDa_dcs (s : State) (v : Word) : (s.setDa v).dcs = s.dcs := rfl
@[simp] theorem State.setDa_da (s : State) (v : Word) : (s.setDa v).da = v := rfl
@[simp] theorem State.setDa_dd (s : State) (v : Word) : (s.setDa v).dd = s.dd := rfl
@[simp] theorem State.setDa_pending (s : State) (v : Word) : (s.setDa v).pending = s.pending := rfl
@[simp] theorem State.setDa_clk (s : State) (v : Word) : (s.setDa v).clk = s.clk := rfl
@[simp] theorem State.setDa_fsel (s : State) (v : Word) : (s.setDa v).fsel = s.fsel := rfl
@[simp] theorem State.setDa_history (s : State) (v : Word) : (s.setDa v).history = s.history := rfl
@[simp] theorem State.setDa_draws (s : State) (v : Word) : (s.setDa v).draws = s.draws := rfl
@[simp] theorem State.setDa_port (s : State) (v : Word) : (s.setDa v).port = s.port := rfl
@[simp] theorem State.setDa_schedule (s : State) (v : Word) : (s.setDa v).schedule = s.schedule := rfl
@[simp] theorem State.setDa_maps (s : State) (v : Word) : (s.setDa v).maps = s.maps := rfl

/-! ### setDd -/

@[simp] theorem State.setDd_cfg (s : State) (v : Word) : (s.setDd v).cfg = s.cfg := rfl
@[simp] theorem State.setDd_pc (s : State) (v : Word) : (s.setDd v).pc = s.pc := rfl
@[simp] theorem State.setDd_hstate (s : State) (v : Word) : (s.setDd v).hstate = s.hstate := rfl
@[simp] theorem State.setDd_x (s : State) (v : Word) : (s.setDd v).x = s.x := rfl
@[simp] theorem State.setDd_fault (s : State) (v : Word) : (s.setDd v).fault = s.fault := rfl
@[simp] theorem State.setDd_refused (s : State) (v : Word) : (s.setDd v).refused = s.refused := rfl
@[simp] theorem State.setDd_refusal (s : State) (v : Word) : (s.setDd v).refusal = s.refusal := rfl
@[simp] theorem State.setDd_response (s : State) (v : Word) : (s.setDd v).response = s.response := rfl
@[simp] theorem State.setDd_cs (s : State) (v : Word) : (s.setDd v).cs = s.cs := rfl
@[simp] theorem State.setDd_slot (s : State) (v : Word) : (s.setDd v).slot = s.slot := rfl
@[simp] theorem State.setDd_dcs (s : State) (v : Word) : (s.setDd v).dcs = s.dcs := rfl
@[simp] theorem State.setDd_da (s : State) (v : Word) : (s.setDd v).da = s.da := rfl
@[simp] theorem State.setDd_dd (s : State) (v : Word) : (s.setDd v).dd = v := rfl
@[simp] theorem State.setDd_pending (s : State) (v : Word) : (s.setDd v).pending = s.pending := rfl
@[simp] theorem State.setDd_clk (s : State) (v : Word) : (s.setDd v).clk = s.clk := rfl
@[simp] theorem State.setDd_fsel (s : State) (v : Word) : (s.setDd v).fsel = s.fsel := rfl
@[simp] theorem State.setDd_history (s : State) (v : Word) : (s.setDd v).history = s.history := rfl
@[simp] theorem State.setDd_draws (s : State) (v : Word) : (s.setDd v).draws = s.draws := rfl
@[simp] theorem State.setDd_port (s : State) (v : Word) : (s.setDd v).port = s.port := rfl
@[simp] theorem State.setDd_schedule (s : State) (v : Word) : (s.setDd v).schedule = s.schedule := rfl
@[simp] theorem State.setDd_maps (s : State) (v : Word) : (s.setDd v).maps = s.maps := rfl

/-! ### setPending -/

@[simp] theorem State.setPending_cfg (s : State) (p : Option Xfer) : (s.setPending p).cfg = s.cfg := rfl
@[simp] theorem State.setPending_pc (s : State) (p : Option Xfer) : (s.setPending p).pc = s.pc := rfl
@[simp] theorem State.setPending_hstate (s : State) (p : Option Xfer) : (s.setPending p).hstate = s.hstate := rfl
@[simp] theorem State.setPending_x (s : State) (p : Option Xfer) : (s.setPending p).x = s.x := rfl
@[simp] theorem State.setPending_fault (s : State) (p : Option Xfer) : (s.setPending p).fault = s.fault := rfl
@[simp] theorem State.setPending_refused (s : State) (p : Option Xfer) : (s.setPending p).refused = s.refused := rfl
@[simp] theorem State.setPending_refusal (s : State) (p : Option Xfer) : (s.setPending p).refusal = s.refusal := rfl
@[simp] theorem State.setPending_response (s : State) (p : Option Xfer) : (s.setPending p).response = s.response := rfl
@[simp] theorem State.setPending_cs (s : State) (p : Option Xfer) : (s.setPending p).cs = s.cs := rfl
@[simp] theorem State.setPending_slot (s : State) (p : Option Xfer) : (s.setPending p).slot = s.slot := rfl
@[simp] theorem State.setPending_dcs (s : State) (p : Option Xfer) : (s.setPending p).dcs = s.dcs := rfl
@[simp] theorem State.setPending_da (s : State) (p : Option Xfer) : (s.setPending p).da = s.da := rfl
@[simp] theorem State.setPending_dd (s : State) (p : Option Xfer) : (s.setPending p).dd = s.dd := rfl
@[simp] theorem State.setPending_pending (s : State) (p : Option Xfer) : (s.setPending p).pending = p := rfl
@[simp] theorem State.setPending_clk (s : State) (p : Option Xfer) : (s.setPending p).clk = s.clk := rfl
@[simp] theorem State.setPending_fsel (s : State) (p : Option Xfer) : (s.setPending p).fsel = s.fsel := rfl
@[simp] theorem State.setPending_history (s : State) (p : Option Xfer) : (s.setPending p).history = s.history := rfl
@[simp] theorem State.setPending_draws (s : State) (p : Option Xfer) : (s.setPending p).draws = s.draws := rfl
@[simp] theorem State.setPending_port (s : State) (p : Option Xfer) : (s.setPending p).port = s.port := rfl
@[simp] theorem State.setPending_schedule (s : State) (p : Option Xfer) : (s.setPending p).schedule = s.schedule := rfl
@[simp] theorem State.setPending_maps (s : State) (p : Option Xfer) : (s.setPending p).maps = s.maps := rfl

/-! ### setClk -/

@[simp] theorem State.setClk_cfg (s : State) (c : ClockGen) : (s.setClk c).cfg = s.cfg := rfl
@[simp] theorem State.setClk_pc (s : State) (c : ClockGen) : (s.setClk c).pc = s.pc := rfl
@[simp] theorem State.setClk_hstate (s : State) (c : ClockGen) : (s.setClk c).hstate = s.hstate := rfl
@[simp] theorem State.setClk_x (s : State) (c : ClockGen) : (s.setClk c).x = s.x := rfl
@[simp] theorem State.setClk_fault (s : State) (c : ClockGen) : (s.setClk c).fault = s.fault := rfl
@[simp] theorem State.setClk_refused (s : State) (c : ClockGen) : (s.setClk c).refused = s.refused := rfl
@[simp] theorem State.setClk_refusal (s : State) (c : ClockGen) : (s.setClk c).refusal = s.refusal := rfl
@[simp] theorem State.setClk_response (s : State) (c : ClockGen) : (s.setClk c).response = s.response := rfl
@[simp] theorem State.setClk_cs (s : State) (c : ClockGen) : (s.setClk c).cs = s.cs := rfl
@[simp] theorem State.setClk_slot (s : State) (c : ClockGen) : (s.setClk c).slot = s.slot := rfl
@[simp] theorem State.setClk_dcs (s : State) (c : ClockGen) : (s.setClk c).dcs = s.dcs := rfl
@[simp] theorem State.setClk_da (s : State) (c : ClockGen) : (s.setClk c).da = s.da := rfl
@[simp] theorem State.setClk_dd (s : State) (c : ClockGen) : (s.setClk c).dd = s.dd := rfl
@[simp] theorem State.setClk_pending (s : State) (c : ClockGen) : (s.setClk c).pending = s.pending := rfl
@[simp] theorem State.setClk_clk (s : State) (c : ClockGen) : (s.setClk c).clk = c := rfl
@[simp] theorem State.setClk_fsel (s : State) (c : ClockGen) : (s.setClk c).fsel = s.fsel := rfl
@[simp] theorem State.setClk_history (s : State) (c : ClockGen) : (s.setClk c).history = s.history := rfl
@[simp] theorem State.setClk_draws (s : State) (c : ClockGen) : (s.setClk c).draws = s.draws := rfl
@[simp] theorem State.setClk_port (s : State) (c : ClockGen) : (s.setClk c).port = s.port := rfl
@[simp] theorem State.setClk_schedule (s : State) (c : ClockGen) : (s.setClk c).schedule = s.schedule := rfl
@[simp] theorem State.setClk_maps (s : State) (c : ClockGen) : (s.setClk c).maps = s.maps := rfl

/-! ### setFsel -/

@[simp] theorem State.setFsel_cfg (s : State) (p : Fin 16) (f : BitVec 3) : (s.setFsel p f).cfg = s.cfg := rfl
@[simp] theorem State.setFsel_pc (s : State) (p : Fin 16) (f : BitVec 3) : (s.setFsel p f).pc = s.pc := rfl
@[simp] theorem State.setFsel_hstate (s : State) (p : Fin 16) (f : BitVec 3) : (s.setFsel p f).hstate = s.hstate := rfl
@[simp] theorem State.setFsel_x (s : State) (p : Fin 16) (f : BitVec 3) : (s.setFsel p f).x = s.x := rfl
@[simp] theorem State.setFsel_fault (s : State) (p : Fin 16) (f : BitVec 3) : (s.setFsel p f).fault = s.fault := rfl
@[simp] theorem State.setFsel_refused (s : State) (p : Fin 16) (f : BitVec 3) : (s.setFsel p f).refused = s.refused := rfl
@[simp] theorem State.setFsel_refusal (s : State) (p : Fin 16) (f : BitVec 3) : (s.setFsel p f).refusal = s.refusal := rfl
@[simp] theorem State.setFsel_response (s : State) (p : Fin 16) (f : BitVec 3) : (s.setFsel p f).response = s.response := rfl
@[simp] theorem State.setFsel_cs (s : State) (p : Fin 16) (f : BitVec 3) : (s.setFsel p f).cs = s.cs := rfl
@[simp] theorem State.setFsel_slot (s : State) (p : Fin 16) (f : BitVec 3) : (s.setFsel p f).slot = s.slot := rfl
@[simp] theorem State.setFsel_dcs (s : State) (p : Fin 16) (f : BitVec 3) : (s.setFsel p f).dcs = s.dcs := rfl
@[simp] theorem State.setFsel_da (s : State) (p : Fin 16) (f : BitVec 3) : (s.setFsel p f).da = s.da := rfl
@[simp] theorem State.setFsel_dd (s : State) (p : Fin 16) (f : BitVec 3) : (s.setFsel p f).dd = s.dd := rfl
@[simp] theorem State.setFsel_pending (s : State) (p : Fin 16) (f : BitVec 3) : (s.setFsel p f).pending = s.pending := rfl
@[simp] theorem State.setFsel_clk (s : State) (p : Fin 16) (f : BitVec 3) : (s.setFsel p f).clk = s.clk := rfl
@[simp] theorem State.setFsel_fsel (s : State) (p : Fin 16) (f : BitVec 3) : (s.setFsel p f).fsel = s.fsel.set p f := rfl
@[simp] theorem State.setFsel_history (s : State) (p : Fin 16) (f : BitVec 3) : (s.setFsel p f).history = s.history := rfl
@[simp] theorem State.setFsel_draws (s : State) (p : Fin 16) (f : BitVec 3) : (s.setFsel p f).draws = s.draws := rfl
@[simp] theorem State.setFsel_port (s : State) (p : Fin 16) (f : BitVec 3) : (s.setFsel p f).port = s.port := rfl
@[simp] theorem State.setFsel_schedule (s : State) (p : Fin 16) (f : BitVec 3) : (s.setFsel p f).schedule = s.schedule := rfl
@[simp] theorem State.setFsel_maps (s : State) (p : Fin 16) (f : BitVec 3) : (s.setFsel p f).maps = s.maps := rfl

/-! ### setPort -/

@[simp] theorem State.setPort_cfg (s : State) (ws : List Word) : (s.setPort ws).cfg = s.cfg := rfl
@[simp] theorem State.setPort_pc (s : State) (ws : List Word) : (s.setPort ws).pc = s.pc := rfl
@[simp] theorem State.setPort_hstate (s : State) (ws : List Word) : (s.setPort ws).hstate = s.hstate := rfl
@[simp] theorem State.setPort_x (s : State) (ws : List Word) : (s.setPort ws).x = s.x := rfl
@[simp] theorem State.setPort_fault (s : State) (ws : List Word) : (s.setPort ws).fault = s.fault := rfl
@[simp] theorem State.setPort_refused (s : State) (ws : List Word) : (s.setPort ws).refused = s.refused := rfl
@[simp] theorem State.setPort_refusal (s : State) (ws : List Word) : (s.setPort ws).refusal = s.refusal := rfl
@[simp] theorem State.setPort_response (s : State) (ws : List Word) : (s.setPort ws).response = s.response := rfl
@[simp] theorem State.setPort_cs (s : State) (ws : List Word) : (s.setPort ws).cs = s.cs := rfl
@[simp] theorem State.setPort_slot (s : State) (ws : List Word) : (s.setPort ws).slot = s.slot := rfl
@[simp] theorem State.setPort_dcs (s : State) (ws : List Word) : (s.setPort ws).dcs = s.dcs := rfl
@[simp] theorem State.setPort_da (s : State) (ws : List Word) : (s.setPort ws).da = s.da := rfl
@[simp] theorem State.setPort_dd (s : State) (ws : List Word) : (s.setPort ws).dd = s.dd := rfl
@[simp] theorem State.setPort_pending (s : State) (ws : List Word) : (s.setPort ws).pending = s.pending := rfl
@[simp] theorem State.setPort_clk (s : State) (ws : List Word) : (s.setPort ws).clk = s.clk := rfl
@[simp] theorem State.setPort_fsel (s : State) (ws : List Word) : (s.setPort ws).fsel = s.fsel := rfl
@[simp] theorem State.setPort_history (s : State) (ws : List Word) : (s.setPort ws).history = s.history := rfl
@[simp] theorem State.setPort_draws (s : State) (ws : List Word) : (s.setPort ws).draws = s.draws := rfl
@[simp] theorem State.setPort_port (s : State) (ws : List Word) : (s.setPort ws).port = ws := rfl
@[simp] theorem State.setPort_schedule (s : State) (ws : List Word) : (s.setPort ws).schedule = s.schedule := rfl
@[simp] theorem State.setPort_maps (s : State) (ws : List Word) : (s.setPort ws).maps = s.maps := rfl

/-! ### setSchedule -/

@[simp] theorem State.setSchedule_cfg (s : State) (ts : List Turn) : (s.setSchedule ts).cfg = s.cfg := rfl
@[simp] theorem State.setSchedule_pc (s : State) (ts : List Turn) : (s.setSchedule ts).pc = s.pc := rfl
@[simp] theorem State.setSchedule_hstate (s : State) (ts : List Turn) : (s.setSchedule ts).hstate = s.hstate := rfl
@[simp] theorem State.setSchedule_x (s : State) (ts : List Turn) : (s.setSchedule ts).x = s.x := rfl
@[simp] theorem State.setSchedule_fault (s : State) (ts : List Turn) : (s.setSchedule ts).fault = s.fault := rfl
@[simp] theorem State.setSchedule_refused (s : State) (ts : List Turn) : (s.setSchedule ts).refused = s.refused := rfl
@[simp] theorem State.setSchedule_refusal (s : State) (ts : List Turn) : (s.setSchedule ts).refusal = s.refusal := rfl
@[simp] theorem State.setSchedule_response (s : State) (ts : List Turn) : (s.setSchedule ts).response = s.response := rfl
@[simp] theorem State.setSchedule_cs (s : State) (ts : List Turn) : (s.setSchedule ts).cs = s.cs := rfl
@[simp] theorem State.setSchedule_slot (s : State) (ts : List Turn) : (s.setSchedule ts).slot = s.slot := rfl
@[simp] theorem State.setSchedule_dcs (s : State) (ts : List Turn) : (s.setSchedule ts).dcs = s.dcs := rfl
@[simp] theorem State.setSchedule_da (s : State) (ts : List Turn) : (s.setSchedule ts).da = s.da := rfl
@[simp] theorem State.setSchedule_dd (s : State) (ts : List Turn) : (s.setSchedule ts).dd = s.dd := rfl
@[simp] theorem State.setSchedule_pending (s : State) (ts : List Turn) : (s.setSchedule ts).pending = s.pending := rfl
@[simp] theorem State.setSchedule_clk (s : State) (ts : List Turn) : (s.setSchedule ts).clk = s.clk := rfl
@[simp] theorem State.setSchedule_fsel (s : State) (ts : List Turn) : (s.setSchedule ts).fsel = s.fsel := rfl
@[simp] theorem State.setSchedule_history (s : State) (ts : List Turn) : (s.setSchedule ts).history = s.history := rfl
@[simp] theorem State.setSchedule_draws (s : State) (ts : List Turn) : (s.setSchedule ts).draws = s.draws := rfl
@[simp] theorem State.setSchedule_port (s : State) (ts : List Turn) : (s.setSchedule ts).port = s.port := rfl
@[simp] theorem State.setSchedule_schedule (s : State) (ts : List Turn) : (s.setSchedule ts).schedule = ts := rfl
@[simp] theorem State.setSchedule_maps (s : State) (ts : List Turn) : (s.setSchedule ts).maps = s.maps := rfl

/-! ### setMaps -/

@[simp] theorem State.setMaps_cfg (s : State) (bs : List Bool) : (s.setMaps bs).cfg = s.cfg := rfl
@[simp] theorem State.setMaps_pc (s : State) (bs : List Bool) : (s.setMaps bs).pc = s.pc := rfl
@[simp] theorem State.setMaps_hstate (s : State) (bs : List Bool) : (s.setMaps bs).hstate = s.hstate := rfl
@[simp] theorem State.setMaps_x (s : State) (bs : List Bool) : (s.setMaps bs).x = s.x := rfl
@[simp] theorem State.setMaps_fault (s : State) (bs : List Bool) : (s.setMaps bs).fault = s.fault := rfl
@[simp] theorem State.setMaps_refused (s : State) (bs : List Bool) : (s.setMaps bs).refused = s.refused := rfl
@[simp] theorem State.setMaps_refusal (s : State) (bs : List Bool) : (s.setMaps bs).refusal = s.refusal := rfl
@[simp] theorem State.setMaps_response (s : State) (bs : List Bool) : (s.setMaps bs).response = s.response := rfl
@[simp] theorem State.setMaps_cs (s : State) (bs : List Bool) : (s.setMaps bs).cs = s.cs := rfl
@[simp] theorem State.setMaps_slot (s : State) (bs : List Bool) : (s.setMaps bs).slot = s.slot := rfl
@[simp] theorem State.setMaps_dcs (s : State) (bs : List Bool) : (s.setMaps bs).dcs = s.dcs := rfl
@[simp] theorem State.setMaps_da (s : State) (bs : List Bool) : (s.setMaps bs).da = s.da := rfl
@[simp] theorem State.setMaps_dd (s : State) (bs : List Bool) : (s.setMaps bs).dd = s.dd := rfl
@[simp] theorem State.setMaps_pending (s : State) (bs : List Bool) : (s.setMaps bs).pending = s.pending := rfl
@[simp] theorem State.setMaps_clk (s : State) (bs : List Bool) : (s.setMaps bs).clk = s.clk := rfl
@[simp] theorem State.setMaps_fsel (s : State) (bs : List Bool) : (s.setMaps bs).fsel = s.fsel := rfl
@[simp] theorem State.setMaps_history (s : State) (bs : List Bool) : (s.setMaps bs).history = s.history := rfl
@[simp] theorem State.setMaps_draws (s : State) (bs : List Bool) : (s.setMaps bs).draws = s.draws := rfl
@[simp] theorem State.setMaps_port (s : State) (bs : List Bool) : (s.setMaps bs).port = s.port := rfl
@[simp] theorem State.setMaps_schedule (s : State) (bs : List Bool) : (s.setMaps bs).schedule = s.schedule := rfl
@[simp] theorem State.setMaps_maps (s : State) (bs : List Bool) : (s.setMaps bs).maps = bs := rfl

/-! ### log -/

@[simp] theorem State.log_cfg (s : State) (e : Event) : (s.log e).cfg = s.cfg := rfl
@[simp] theorem State.log_pc (s : State) (e : Event) : (s.log e).pc = s.pc := rfl
@[simp] theorem State.log_hstate (s : State) (e : Event) : (s.log e).hstate = s.hstate := rfl
@[simp] theorem State.log_x (s : State) (e : Event) : (s.log e).x = s.x := rfl
@[simp] theorem State.log_fault (s : State) (e : Event) : (s.log e).fault = s.fault := rfl
@[simp] theorem State.log_refused (s : State) (e : Event) : (s.log e).refused = s.refused := rfl
@[simp] theorem State.log_refusal (s : State) (e : Event) : (s.log e).refusal = s.refusal := rfl
@[simp] theorem State.log_response (s : State) (e : Event) : (s.log e).response = s.response := rfl
@[simp] theorem State.log_cs (s : State) (e : Event) : (s.log e).cs = s.cs := rfl
@[simp] theorem State.log_slot (s : State) (e : Event) : (s.log e).slot = s.slot := rfl
@[simp] theorem State.log_dcs (s : State) (e : Event) : (s.log e).dcs = s.dcs := rfl
@[simp] theorem State.log_da (s : State) (e : Event) : (s.log e).da = s.da := rfl
@[simp] theorem State.log_dd (s : State) (e : Event) : (s.log e).dd = s.dd := rfl
@[simp] theorem State.log_pending (s : State) (e : Event) : (s.log e).pending = s.pending := rfl
@[simp] theorem State.log_clk (s : State) (e : Event) : (s.log e).clk = s.clk := rfl
@[simp] theorem State.log_fsel (s : State) (e : Event) : (s.log e).fsel = s.fsel := rfl
@[simp] theorem State.log_history (s : State) (e : Event) : (s.log e).history = s.history ++ [e] := rfl
@[simp] theorem State.log_draws (s : State) (e : Event) : (s.log e).draws = s.draws := rfl
@[simp] theorem State.log_port (s : State) (e : Event) : (s.log e).port = s.port := rfl
@[simp] theorem State.log_schedule (s : State) (e : Event) : (s.log e).schedule = s.schedule := rfl
@[simp] theorem State.log_maps (s : State) (e : Event) : (s.log e).maps = s.maps := rfl

/-! ### nextDraw -/

@[simp] theorem State.nextDraw_cfg (s : State) : (s.nextDraw).cfg = s.cfg := rfl
@[simp] theorem State.nextDraw_pc (s : State) : (s.nextDraw).pc = s.pc := rfl
@[simp] theorem State.nextDraw_hstate (s : State) : (s.nextDraw).hstate = s.hstate := rfl
@[simp] theorem State.nextDraw_x (s : State) : (s.nextDraw).x = s.x := rfl
@[simp] theorem State.nextDraw_fault (s : State) : (s.nextDraw).fault = s.fault := rfl
@[simp] theorem State.nextDraw_refused (s : State) : (s.nextDraw).refused = s.refused := rfl
@[simp] theorem State.nextDraw_refusal (s : State) : (s.nextDraw).refusal = s.refusal := rfl
@[simp] theorem State.nextDraw_response (s : State) : (s.nextDraw).response = s.response := rfl
@[simp] theorem State.nextDraw_cs (s : State) : (s.nextDraw).cs = s.cs := rfl
@[simp] theorem State.nextDraw_slot (s : State) : (s.nextDraw).slot = s.slot := rfl
@[simp] theorem State.nextDraw_dcs (s : State) : (s.nextDraw).dcs = s.dcs := rfl
@[simp] theorem State.nextDraw_da (s : State) : (s.nextDraw).da = s.da := rfl
@[simp] theorem State.nextDraw_dd (s : State) : (s.nextDraw).dd = s.dd := rfl
@[simp] theorem State.nextDraw_pending (s : State) : (s.nextDraw).pending = s.pending := rfl
@[simp] theorem State.nextDraw_clk (s : State) : (s.nextDraw).clk = s.clk := rfl
@[simp] theorem State.nextDraw_fsel (s : State) : (s.nextDraw).fsel = s.fsel := rfl
@[simp] theorem State.nextDraw_history (s : State) : (s.nextDraw).history = s.history := rfl
@[simp] theorem State.nextDraw_draws (s : State) : (s.nextDraw).draws = s.draws + 1 := rfl
@[simp] theorem State.nextDraw_port (s : State) : (s.nextDraw).port = s.port := rfl
@[simp] theorem State.nextDraw_schedule (s : State) : (s.nextDraw).schedule = s.schedule := rfl
@[simp] theorem State.nextDraw_maps (s : State) : (s.nextDraw).maps = s.maps := rfl

/-! ### markRefused -/

@[simp] theorem State.markRefused_cfg (s : State) (r : Refusal) : (s.markRefused r).cfg = s.cfg := rfl
@[simp] theorem State.markRefused_pc (s : State) (r : Refusal) : (s.markRefused r).pc = s.pc := rfl
@[simp] theorem State.markRefused_hstate (s : State) (r : Refusal) : (s.markRefused r).hstate = s.hstate := rfl
@[simp] theorem State.markRefused_x (s : State) (r : Refusal) : (s.markRefused r).x = s.x := rfl
@[simp] theorem State.markRefused_fault (s : State) (r : Refusal) : (s.markRefused r).fault = s.fault := rfl
@[simp] theorem State.markRefused_refused (s : State) (r : Refusal) : (s.markRefused r).refused = true := rfl
@[simp] theorem State.markRefused_refusal (s : State) (r : Refusal) : (s.markRefused r).refusal = some r := rfl
@[simp] theorem State.markRefused_response (s : State) (r : Refusal) : (s.markRefused r).response = s.response := rfl
@[simp] theorem State.markRefused_cs (s : State) (r : Refusal) : (s.markRefused r).cs = s.cs := rfl
@[simp] theorem State.markRefused_slot (s : State) (r : Refusal) : (s.markRefused r).slot = s.slot := rfl
@[simp] theorem State.markRefused_dcs (s : State) (r : Refusal) : (s.markRefused r).dcs = s.dcs := rfl
@[simp] theorem State.markRefused_da (s : State) (r : Refusal) : (s.markRefused r).da = s.da := rfl
@[simp] theorem State.markRefused_dd (s : State) (r : Refusal) : (s.markRefused r).dd = s.dd := rfl
@[simp] theorem State.markRefused_pending (s : State) (r : Refusal) : (s.markRefused r).pending = s.pending := rfl
@[simp] theorem State.markRefused_clk (s : State) (r : Refusal) : (s.markRefused r).clk = s.clk := rfl
@[simp] theorem State.markRefused_fsel (s : State) (r : Refusal) : (s.markRefused r).fsel = s.fsel := rfl
@[simp] theorem State.markRefused_history (s : State) (r : Refusal) : (s.markRefused r).history = s.history := rfl
@[simp] theorem State.markRefused_draws (s : State) (r : Refusal) : (s.markRefused r).draws = s.draws := rfl
@[simp] theorem State.markRefused_port (s : State) (r : Refusal) : (s.markRefused r).port = s.port := rfl
@[simp] theorem State.markRefused_schedule (s : State) (r : Refusal) : (s.markRefused r).schedule = s.schedule := rfl
@[simp] theorem State.markRefused_maps (s : State) (r : Refusal) : (s.markRefused r).maps = s.maps := rfl

end Sys2Proof.Machine
end

