-- ==== Sys2Proof/Laws/Ops.lean ====
section
/-! SUPPORT. What the shared operations can do, said once: taking a fault, a refusal, a response, the admission of a
command, a recorded transaction. -/

namespace Sys2Proof.Machine

/-! ### Taking a fault (R142) -/

@[simp] theorem take_fault_fault (s : State) (f : Fault) (b : Option BusReq) :
    (s.takeFault f b).fault = some ⟨f, s.pc, b.map fun r => (r.desc, busData r)⟩ := by
  cases b <;> rfl

@[simp] theorem take_fault_history (s : State) (f : Fault) (b : Option BusReq) :
    (s.takeFault f b).history = s.history ++ (b.map fun r => Event.faulted r.desc (busData r) f).toList := by
  cases b <;> simp [State.takeFault]

/-- A fault changes the fault mark and the history, and nothing else. -/
theorem take_fault_precise (s : State) (f : Fault) (b : Option BusReq) :
    s.takeFault f b = { s with fault := (s.takeFault f b).fault, history := (s.takeFault f b).history } := by
  cases b <;> rfl

@[simp] theorem take_fault_cfg (s : State) (f : Fault) (b : Option BusReq) : (s.takeFault f b).cfg = s.cfg := by
  cases b <;> rfl
@[simp] theorem take_fault_pc (s : State) (f : Fault) (b : Option BusReq) : (s.takeFault f b).pc = s.pc := by
  cases b <;> rfl
@[simp] theorem take_fault_hstate (s : State) (f : Fault) (b : Option BusReq) : (s.takeFault f b).hstate = s.hstate := by
  cases b <;> rfl
@[simp] theorem take_fault_x (s : State) (f : Fault) (b : Option BusReq) : (s.takeFault f b).x = s.x := by
  cases b <;> rfl
@[simp] theorem take_fault_refused (s : State) (f : Fault) (b : Option BusReq) : (s.takeFault f b).refused = s.refused := by
  cases b <;> rfl
@[simp] theorem take_fault_refusal (s : State) (f : Fault) (b : Option BusReq) : (s.takeFault f b).refusal = s.refusal := by
  cases b <;> rfl
@[simp] theorem take_fault_response (s : State) (f : Fault) (b : Option BusReq) : (s.takeFault f b).response = s.response := by
  cases b <;> rfl
@[simp] theorem take_fault_cs (s : State) (f : Fault) (b : Option BusReq) : (s.takeFault f b).cs = s.cs := by
  cases b <;> rfl
@[simp] theorem take_fault_slot (s : State) (f : Fault) (b : Option BusReq) : (s.takeFault f b).slot = s.slot := by
  cases b <;> rfl
@[simp] theorem take_fault_dcs (s : State) (f : Fault) (b : Option BusReq) : (s.takeFault f b).dcs = s.dcs := by
  cases b <;> rfl
@[simp] theorem take_fault_da (s : State) (f : Fault) (b : Option BusReq) : (s.takeFault f b).da = s.da := by
  cases b <;> rfl
@[simp] theorem take_fault_dd (s : State) (f : Fault) (b : Option BusReq) : (s.takeFault f b).dd = s.dd := by
  cases b <;> rfl
@[simp] theorem take_fault_pending (s : State) (f : Fault) (b : Option BusReq) : (s.takeFault f b).pending = s.pending := by
  cases b <;> rfl
@[simp] theorem take_fault_clk (s : State) (f : Fault) (b : Option BusReq) : (s.takeFault f b).clk = s.clk := by
  cases b <;> rfl
@[simp] theorem take_fault_fsel (s : State) (f : Fault) (b : Option BusReq) : (s.takeFault f b).fsel = s.fsel := by
  cases b <;> rfl
@[simp] theorem take_fault_draws (s : State) (f : Fault) (b : Option BusReq) : (s.takeFault f b).draws = s.draws := by
  cases b <;> rfl
@[simp] theorem take_fault_port (s : State) (f : Fault) (b : Option BusReq) : (s.takeFault f b).port = s.port := by
  cases b <;> rfl
@[simp] theorem take_fault_schedule (s : State) (f : Fault) (b : Option BusReq) : (s.takeFault f b).schedule = s.schedule := by
  cases b <;> rfl
@[simp] theorem take_fault_maps (s : State) (f : Fault) (b : Option BusReq) : (s.takeFault f b).maps = s.maps := by
  cases b <;> rfl

/-! ### The response (R17) -/

@[simp] theorem respond_cfg (s : State) (st : Status) (v : Word) : (s.respond st v).cfg = s.cfg := rfl
@[simp] theorem respond_hstate (s : State) (st : Status) (v : Word) : (s.respond st v).hstate = s.hstate := rfl
@[simp] theorem respond_x (s : State) (st : Status) (v : Word) : (s.respond st v).x = s.x := rfl
@[simp] theorem respond_fault (s : State) (st : Status) (v : Word) : (s.respond st v).fault = s.fault := rfl
@[simp] theorem respond_refused (s : State) (st : Status) (v : Word) : (s.respond st v).refused = s.refused := rfl
@[simp] theorem respond_refusal (s : State) (st : Status) (v : Word) : (s.respond st v).refusal = s.refusal := rfl
@[simp] theorem respond_cs (s : State) (st : Status) (v : Word) : (s.respond st v).cs = s.cs := rfl
@[simp] theorem respond_slot (s : State) (st : Status) (v : Word) : (s.respond st v).slot = s.slot := rfl
@[simp] theorem respond_dcs (s : State) (st : Status) (v : Word) : (s.respond st v).dcs = s.dcs := rfl
@[simp] theorem respond_da (s : State) (st : Status) (v : Word) : (s.respond st v).da = s.da := rfl
@[simp] theorem respond_dd (s : State) (st : Status) (v : Word) : (s.respond st v).dd = s.dd := rfl
@[simp] theorem respond_pending (s : State) (st : Status) (v : Word) : (s.respond st v).pending = s.pending := rfl
@[simp] theorem respond_clk (s : State) (st : Status) (v : Word) : (s.respond st v).clk = s.clk := rfl
@[simp] theorem respond_fsel (s : State) (st : Status) (v : Word) : (s.respond st v).fsel = s.fsel := rfl
@[simp] theorem respond_history (s : State) (st : Status) (v : Word) : (s.respond st v).history = s.history := rfl
@[simp] theorem respond_draws (s : State) (st : Status) (v : Word) : (s.respond st v).draws = s.draws := rfl
@[simp] theorem respond_port (s : State) (st : Status) (v : Word) : (s.respond st v).port = s.port := rfl
@[simp] theorem respond_schedule (s : State) (st : Status) (v : Word) : (s.respond st v).schedule = s.schedule := rfl
@[simp] theorem respond_maps (s : State) (st : Status) (v : Word) : (s.respond st v).maps = s.maps := rfl
@[simp] theorem respond_pc (s : State) (st : Status) (v : Word) : (s.respond st v).pc = .idle := rfl
@[simp] theorem respond_response (s : State) (st : Status) (v : Word) : (s.respond st v).response = some ⟨st, v⟩ := rfl

/-! ### A step of the controller stops after a fault -/

theorem while_running_next {s t t' : State} (h : whileRunning s t = .next t') : s.fault = none ∧ t' = t := by
  unfold whileRunning at h
  split at h
  · cases h
  · next hf => cases h; exact ⟨hf, rfl⟩

theorem while_running_of_none {s : State} (t : State) (h : s.fault = none) : whileRunning s t = .next t := by
  simp [whileRunning, h]

/-! ### Admission (R135) -/

/-- What admitting a command other than ACTIVATE comes to. -/
theorem admit_cases (acc : State → State) (s : State) :
    (s.pc ≠ .idle ∧ admitCommand acc s = s.takeFault .overlap none) ∨
    (s.pc = .idle ∧ s.hstate ≠ .active ∧ admitCommand acc s = s.takeFault .unavailable none) ∨
    (s.pc = .idle ∧ s.hstate = .active ∧ admitCommand acc s = acc (s.setResponse none)) := by
  unfold admitCommand
  by_cases hp : s.pc = .idle <;> by_cases hh : s.hstate = .active <;> simp [hp, hh]

/-- What admitting ACTIVATE comes to. -/
theorem admit_activate_cases (acc : State → State) (s : State) :
    (s.pc ≠ .idle ∧ admitActivate acc s = s.takeFault .overlap none) ∨
    (s.pc = .idle ∧ s.hstate = .active ∧ admitActivate acc s = s.takeFault .unpaired none) ∨
    (s.pc = .idle ∧ s.hstate ≠ .active ∧ admitActivate acc s = acc (s.setResponse none)) := by
  unfold admitActivate
  by_cases hp : s.pc = .idle <;> by_cases hh : s.hstate = .active <;> simp [hp, hh]

/-- What an illegal header comes to. -/
theorem admit_illegal_cases (s : State) :
    (s.pc ≠ .idle ∧ admitIllegal s = s.takeFault .overlap none) ∨
    (s.pc = .idle ∧ admitIllegal s = s.markRefused .illegalCommand) := by
  unfold admitIllegal
  by_cases hp : s.pc = .idle <;> simp [hp]

/-! ### A recorded transaction (R10) -/

/-- Every transaction adds exactly one event to the history its rule leaves. -/
theorem commit_history (r : BusReq) (s : State) (e : Effect) :
    ∃ ev, (commit r s e).history =
      (match e with | .done _ t => t.history | .refused _ t => t.history | .fault _ => s.history) ++ [ev] := by
  cases e <;> simp [commit]

end Sys2Proof.Machine
end

