-- ==== Sys2Proof/Laws/Bus.lean ====
section
/-! SUPPORT. What a register's rule can do: a bus effect changes registers only (R38), never the controller. -/

namespace Sys2Proof.Machine

/-- Two states agree on everything a bus transaction's rule leaves alone: the controller (R14 "Only the controller reads or
writes them"), the marks, the response, CS, the history, the parameters and the inputs. -/
structure SameController (s t : State) : Prop where
  cfg : t.cfg = s.cfg
  pc : t.pc = s.pc
  hstate : t.hstate = s.hstate
  x : t.x = s.x
  fault : t.fault = s.fault
  refused : t.refused = s.refused
  refusal : t.refusal = s.refusal
  response : t.response = s.response
  cs : t.cs = s.cs
  history : t.history = s.history
  port : t.port = s.port
  schedule : t.schedule = s.schedule
  maps : t.maps = s.maps

theorem same_controller_refl (s : State) : SameController s s := by constructor <;> rfl

/-- The state a rule leaves, when it leaves one. -/
def Effect.state? : Effect → Option State
  | .done _ t => some t
  | .refused _ t => some t
  | .fault _ => none

theorem dcs_write_cases (v : Word) (s : State) :
    (dcsStarts v = true ∧ s.pending.isSome = true ∧ dcsWrite v s = .fault .startWhilePending) ∨
    (¬(dcsStarts v = true ∧ s.pending.isSome = true) ∧ ¬(dcsStarts v = true ∧ v.getLsbD 0 = true) ∧
      dcsWrite v s = .done v (s.setDcs (dcsStore v s.dcs))) ∨
    (dcsStarts v = true ∧ s.pending = none ∧ v.getLsbD 0 = true ∧
      slotWidth (startedXfer s (dcsDir (dcsStore v s.dcs))).slot = width8Code ∧
      dcsWrite v s = .done v ((s.setDcs (dcsStore v s.dcs)).setPending
        (some (startedXfer s (dcsDir (dcsStore v s.dcs)))))) ∨
    (dcsStarts v = true ∧ s.pending = none ∧ v.getLsbD 0 = true ∧
      slotWidth (startedXfer s (dcsDir (dcsStore v s.dcs))).slot ≠ width8Code ∧
      dcsWrite v s = .refused .width (s.setDcs (dcsStore v s.dcs))) := by
  unfold dcsWrite
  have he : (dcsStore v s.dcs).enable = v.getLsbD 0 := rfl
  cases hs : dcsStarts v <;> cases hp : s.pending <;> cases h0 : v[0] <;>
    by_cases hw : slotWidth (startedXfer s (dcsDir (dcsStore v s.dcs))).slot = width8Code <;>
    simp [he, h0, hw]

/-- Every row's rule leaves the controller alone. -/
theorem row_effect_same (i : Instr) (s t : State) (h : (rowEffect i s).state? = some t) : SameController s t := by
  cases i with
  | wrDcs v =>
    obtain ⟨-, -, he⟩ | ⟨-, -, he⟩ | ⟨-, -, -, -, he⟩ | ⟨-, -, -, -, he⟩ := dcs_write_cases v s
    all_goals
      simp only [rowEffect, he, Effect.state?, Option.some.injEq, reduceCtorEq] at h
      try (subst h; constructor <;> rfl)
  | wrCmCtl v =>
    simp only [rowEffect, cmCtlWrite] at h
    split at h
    · cases h; exact same_controller_refl s
    · split at h
      · cases h
      · cases h; constructor <;> rfl
  | wrCmDiv v =>
    simp only [rowEffect, cmDivWrite] at h
    split at h
    · cases h; exact same_controller_refl s
    · split at h
      · cases h
      · cases h; constructor <;> rfl
  | fselGpio p v =>
    simp only [rowEffect, gpioSelect] at h
    split at h
    · cases h; constructor <;> rfl
    · cases h
  | _ => cases h <;> constructor <;> rfl

theorem bus_effect_same (r : BusReq) (s t : State) (h : (busEffect r s).state? = some t) : SameController s t := by
  unfold busEffect at h
  split at h
  · exact row_effect_same _ s t h
  · cases h

/-! ### The requests the phases issue, each with its register's rule -/

theorem decode_ctl_write (v : Word) : decodeBus (ctlWrite v) = .ok (.wrCmCtl v) := by
  have h1 : (descTgt (ctlWrite v).desc).toNat = 1 := by simp only [ctlWrite]; decide
  have h2 : descWrites (ctlWrite v).desc = true := by simp only [ctlWrite]; decide
  have h3 : (descIdx (ctlWrite v).desc).toNat = 0 := by simp only [ctlWrite]; decide
  simp only [decodeBus, h1, h2, h3]; rfl

theorem decode_div_write (v : Word) : decodeBus (divWrite v) = .ok (.wrCmDiv v) := by
  have h1 : (descTgt (divWrite v).desc).toNat = 1 := by simp only [divWrite]; decide
  have h2 : descWrites (divWrite v).desc = true := by simp only [divWrite]; decide
  have h3 : (descIdx (divWrite v).desc).toNat = 1 := by simp only [divWrite]; decide
  simp only [decodeBus, h1, h2, h3]; rfl

/-- The SMI requests, by index (R18, R59). -/
theorem decode_smi_fields (i : BitVec 5) :
    (descTgt (mkDesc false 0 i)).toNat = 0 ∧ descWrites (mkDesc false 0 i) = false ∧ descIdx (mkDesc false 0 i) = i ∧
    (descTgt (mkDesc true 0 i)).toNat = 0 ∧ descWrites (mkDesc true 0 i) = true ∧ descIdx (mkDesc true 0 i) = i := by
  revert i; decide

theorem decode_smi_read (i : BitVec 5) :
    decodeBus (smiRead i) = match i.toNat with
      | 0 => .ok .rdCs | 4 => .ok .rdDsr0 | 5 => .ok .rdDsw0 | 6 => .ok .rdDsr1 | 7 => .ok .rdDsw1
      | 8 => .ok .rdDsr2 | 9 => .ok .rdDsw2 | 10 => .ok .rdDsr3 | 11 => .ok .rdDsw3
      | 13 => .ok .rdDcs | 14 => .ok .rdDa | 15 => .ok .rdDd | _ => .error .unlisted := by
  revert i; decide

theorem decode_smi_write (i : BitVec 5) (v : Word) :
    decodeBus (smiWrite i v) = match i.toNat with
      | 0 => .ok (.wrCs v) | 4 => .ok (.wrDsr0 v) | 5 => .ok (.wrDsw0 v) | 6 => .ok (.wrDsr1 v) | 7 => .ok (.wrDsw1 v)
      | 8 => .ok (.wrDsr2 v) | 9 => .ok (.wrDsw2 v) | 10 => .ok (.wrDsr3 v) | 11 => .ok (.wrDsw3 v)
      | 13 => .ok (.wrDcs v) | 14 => .ok (.wrDa v) | 15 => .ok (.wrDd v) | _ => .error .unlisted := by
  obtain ⟨-, -, -, h1, h2, h3⟩ := decode_smi_fields i
  simp only [decodeBus, smiWrite, h1, h2, h3]
  obtain ⟨⟨n, hn⟩⟩ := i
  simp only [BitVec.toNat_ofFin]
  interval_cases n <;> rfl

@[simp] theorem bus_ctl_write (v : Word) (s : State) : busEffect (ctlWrite v) s = cmCtlWrite v s := by
  simp only [busEffect, decode_ctl_write]; rfl
@[simp] theorem bus_div_write (v : Word) (s : State) : busEffect (divWrite v) s = cmDivWrite v s := by
  simp only [busEffect, decode_div_write]; rfl
@[simp] theorem bus_dcs_write (v : Word) (s : State) : busEffect (smiWrite idxDcs v) s = dcsWrite v s := by
  simp only [busEffect, decode_smi_write]; rfl
@[simp] theorem bus_dcs_read (s : State) : busEffect (smiRead idxDcs) s = dcsRead s := by
  simp only [busEffect, decode_smi_read]; rfl
@[simp] theorem bus_da_write (v : Word) (s : State) : busEffect (smiWrite idxDa v) s = daWrite v s := by
  simp only [busEffect, decode_smi_write]; rfl
@[simp] theorem bus_dd_write (v : Word) (s : State) : busEffect (smiWrite idxDd v) s = ddWrite v s := by
  simp only [busEffect, decode_smi_write]; rfl
@[simp] theorem bus_dd_read (s : State) : busEffect (smiRead idxDd) s = ddRead s := by
  simp only [busEffect, decode_smi_read]; rfl

/-- Index 4 + k reaches slot k (R20). -/
theorem bus_slot_read (k : Fin 8) (s : State) :
    busEffect (smiRead (BitVec.ofNat 5 (4 + k.val))) s = slotRead k s := by
  simp only [busEffect, decode_smi_read]
  obtain ⟨k, hk⟩ := k
  interval_cases k <;> rfl

theorem bus_slot_write (k : Fin 8) (v : Word) (s : State) :
    busEffect (smiWrite (BitVec.ofNat 5 (4 + k.val)) v) s = slotWrite k v s := by
  simp only [busEffect, decode_smi_write]
  obtain ⟨k, hk⟩ := k
  interval_cases k <;> rfl

/-- `4 + x[k]` with x[k] ≤ 7 is the index of slot x[k] (R132). -/
theorem setup_index_eq (k : BitVec 4) (h : k.toNat < 8) :
    (4 + k.setWidth 5 : BitVec 5) = BitVec.ofNat 5 (4 + (⟨k.toNat, h⟩ : Fin 8).val) := by
  revert k; decide

/-- A four-bit pin number is always in the pin set (R104). -/
theorem bus_gpio_set (k : BitVec 4) (f : BitVec 3) (s : State) :
    busEffect (gpioSet (k.setWidth 5) f) s = .done (f.setWidth 32) (s.setFsel ⟨k.toNat, k.isLt⟩ f) := by
  have hf : fselCode (f.setWidth 32) = f := by
    revert f; decide
  have hk : ∀ k : BitVec 4, (descTgt (mkDesc true 2 (k.setWidth 5))).toNat = 2 ∧
      descWrites (mkDesc true 2 (k.setWidth 5)) = true ∧
      descIdx (mkDesc true 2 (k.setWidth 5)) = k.setWidth 5 ∧ pinInSet (k.setWidth 5) = true ∧
      (k.setWidth 5).toNat = k.toNat := by decide
  obtain ⟨h1, h2, h3, h4, h5⟩ := hk k
  have hd : decodeBus (gpioSet (k.setWidth 5) f) = .ok (.fselGpio (k.setWidth 5) (f.setWidth 32)) := by
    simp only [decodeBus, gpioSet, h1, h2, h3, h4]; rfl
  simp only [busEffect, hd, rowEffect, gpioSelect, h5, k.isLt, dite_true, hf]

/-! ### The DCS word (R83) -/

theorem dcs_read_word_bit (d : Dcs) (b : BitVec 1) (h : BitVec 28) (i : Nat) :
    (dcsReadWord d b h).getLsbD i =
      if i = 0 then d.enable else if i = 1 then b.getLsbD 0 else if i = 2 then d.done else if i = 3 then d.write
      else h.getLsbD (i - 4) := by
  unfold dcsReadWord
  change BitVec.getLsbD (w := 28 + (1 + (1 + (1 + 1)))) _ i = _
  simp only [BitVec.getLsbD_append, BitVec.getLsbD_ofBool]
  by_cases h0 : i = 0
  · subst h0; simp
  by_cases h1 : i = 1
  · subst h1; simp
  by_cases h2 : i = 2
  · subst h2; simp
  by_cases h3 : i = 3
  · subst h3; simp
  have h4 : ¬ i < 4 := by omega
  simp [h0, h1, h2, h3, h4]

@[simp] theorem dcs_done_read_word (d : Dcs) (b : BitVec 1) (h : BitVec 28) : dcsDone (dcsReadWord d b h) = d.done := by
  rw [dcsDone, dcs_read_word_bit]; rfl

/-- The byte of DD after a read completion (R97): the high bits are drawn. -/
@[simp] theorem dd_byte_append (h : BitVec 24) (b : Byte) : ddByte (h ++ b) = b := by
  unfold ddByte
  change BitVec.extractLsb' 0 8 (n := 24 + 8) (h ++ b) = b
  ext i hi
  simp only [BitVec.getElem_extractLsb', Nat.zero_add, BitVec.getLsbD_append, hi, if_true]
  exact BitVec.getLsbD_eq_getElem hi

end Sys2Proof.Machine
end

