-- ==== Sys2Proof/Laws/Phases.lean ====
section
/-! SUPPORT. What each phase of the controller does (R15), said once: the state a phase leaves, in each of its cases. -/

namespace Sys2Proof.Machine

/-! ### Issuing a transaction -/

theorem issue_write_done {r : BusReq} {k : State → State} {s t : State} {v : Word}
    (h : busEffect r s = .done v t) : issueWrite r k s = k (t.log (busEvent r v)) := by
  simp [issueWrite, h, Effect.faults, commit]

theorem issue_write_refused {r : BusReq} {k : State → State} {s t : State} {x : Refusal}
    (h : busEffect r s = .refused x t) :
    issueWrite r k s = k ((t.log (.refused r.desc (busData r) x)).markRefused x) := by
  simp [issueWrite, h, Effect.faults, commit]

theorem issue_write_fault {r : BusReq} {k : State → State} {s : State} {f : Fault}
    (h : busEffect r s = .fault f) : issueWrite r k s = s.takeFault f (some r) := by
  simp [issueWrite, h, Effect.faults, commit]

theorem issue_read_done {r : BusReq} {k : Word → State → State} {s t : State} {v : Word}
    (h : busEffect r s = .done v t) : issueRead r k s = k v (t.log (busEvent r v)) := by
  simp [issueRead, h, commit]

/-! ### The events of the phases' own requests -/

theorem ctl_write_event (v w : Word) : busEvent (ctlWrite v) w = .write 0x120 v := by
  have h : mkDesc true 1 0 = 0x120 := by decide
  have h2 : descWrites 0x120 = true := by decide
  simp only [busEvent, ctlWrite, h, h2, if_true]

theorem div_write_event (v w : Word) : busEvent (divWrite v) w = .write 0x121 v := by
  have h : mkDesc true 1 1 = 0x121 := by decide
  have h2 : descWrites 0x121 = true := by decide
  simp only [busEvent, divWrite, h, h2, if_true]

theorem dcs_write_event (v w : Word) : busEvent (smiWrite idxDcs v) w = .write 0x10D v := by
  have h : mkDesc true 0 idxDcs = 0x10D := by decide
  have h2 : descWrites 0x10D = true := by decide
  simp only [busEvent, smiWrite, h, h2, if_true]

theorem da_write_event (v w : Word) : busEvent (smiWrite idxDa v) w = .write 0x10E v := by
  have h : mkDesc true 0 idxDa = 0x10E := by decide
  have h2 : descWrites 0x10E = true := by decide
  simp only [busEvent, smiWrite, h, h2, if_true]

theorem dd_write_event (v w : Word) : busEvent (smiWrite idxDd v) w = .write 0x10F v := by
  have h : mkDesc true 0 idxDd = 0x10F := by decide
  have h2 : descWrites 0x10F = true := by decide
  simp only [busEvent, smiWrite, h, h2, if_true]

theorem dcs_read_event (w : Word) : busEvent (smiRead idxDcs) w = .read 0x00D w := by
  have h : mkDesc false 0 idxDcs = 0x00D := by decide
  have h2 : descWrites 0x00D = false := by decide
  simp only [busEvent, smiRead, h, h2, if_false, Bool.false_eq_true]

theorem dd_read_event (w : Word) : busEvent (smiRead idxDd) w = .read 0x00F w := by
  have h : mkDesc false 0 idxDd = 0x00F := by decide
  have h2 : descWrites 0x00F = false := by decide
  simp only [busEvent, smiRead, h, h2, if_false, Bool.false_eq_true]

/-! ### The clock sequencer (R99) -/

theorem ctl_disable_effect (s : State) :
    cmCtlWrite ctlDisableWord s = .done ctlDisableWord (s.setClk { s.clk with src := 0, enab := false }) := by
  have h1 : cmPassword ctlDisableWord = cmPasswd := by decide
  have h2 : ctlDisableWord.getLsbD 4 = false := by decide
  have h3 : ctlDisableWord.extractLsb' 0 4 = 0#4 := by decide
  simp only [cmCtlWrite, h1, h2, h3, ne_eq, not_true_eq_false, if_false, Bool.false_eq_true, false_and, and_false]
  rfl

theorem phase_clk_disable (s : State) :
    phaseClkDisable s = ((s.setClk { s.clk with src := 0, enab := false }).log
      (.write 0x120 0x5A000000)).setPc .clkDivide := by
  rw [phaseClkDisable, issue_write_done (by rw [bus_ctl_write]; exact ctl_disable_effect s), ctl_write_event]
  rfl

theorem div_set_effect (s : State) (h : s.clk.enab = false) :
    cmDivWrite divSetWord s = .done divSetWord (s.setClk { s.clk with divi := smiClkDivi, divf := smiClkDivf }) := by
  have h1 : cmPassword divSetWord = cmPasswd := by decide
  have h2 : divSetWord.extractLsb' 12 12 = smiClkDivi := by decide
  have h3 : divSetWord.extractLsb' 0 12 = smiClkDivf := by decide
  simp [cmDivWrite, h1, h2, h3, h]

theorem phase_clk_divide (s : State) (h : s.clk.enab = false) :
    phaseClkDivide s = ((s.setClk { s.clk with divi := smiClkDivi, divf := smiClkDivf }).log
      (.write 0x121 0x5A004000)).setPc .clkEnable := by
  rw [phaseClkDivide, issue_write_done (by rw [bus_div_write]; exact div_set_effect s h), div_write_event]
  rfl

theorem phase_clk_divide_running (s : State) (h : s.clk.enab = true) :
    phaseClkDivide s = s.takeFault .clkWhileRunning (some (divWrite divSetWord)) := by
  refine issue_write_fault ?_
  have h1 : cmPassword divSetWord = cmPasswd := by decide
  simp [cmDivWrite, h1, h]

theorem ctl_enable_effect (s : State) (h : s.clk.enab = false ∨ s.clk.src = smiClkSrc) :
    cmCtlWrite ctlEnableWord s = .done ctlEnableWord (s.setClk { s.clk with src := smiClkSrc, enab := true }) := by
  have h1 : cmPassword ctlEnableWord = cmPasswd := by decide
  have h2 : ctlEnableWord.getLsbD 4 = true := by decide
  have h3 : ctlEnableWord.extractLsb' 0 4 = smiClkSrc := by decide
  have h4 : ¬(s.clk.enab = true ∧ True ∧ smiClkSrc ≠ s.clk.src) := by
    rintro ⟨ha, -, hb⟩
    rcases h with h | h
    · simp [h] at ha
    · exact hb h.symm
  simp only [cmCtlWrite, h1, h2, h3, ne_eq, not_true_eq_false, if_false]
  rw [if_neg h4]

theorem phase_clk_enable (s : State) (h : s.clk.enab = false ∨ s.clk.src = smiClkSrc) :
    phaseClkEnable s = clkExit ((s.setClk { s.clk with src := smiClkSrc, enab := true }).log
      (.write 0x120 0x5A000016)) := by
  rw [phaseClkEnable, issue_write_done (by rw [bus_ctl_write]; exact ctl_enable_effect s h), ctl_write_event]
  rfl

theorem phase_clk_enable_running (s : State) (h : s.clk.enab = true) (hs : s.clk.src ≠ smiClkSrc) :
    phaseClkEnable s = s.takeFault .clkWhileRunning (some (ctlWrite ctlEnableWord)) := by
  refine issue_write_fault ?_
  have h1 : cmPassword ctlEnableWord = cmPasswd := by decide
  have h2 : ctlEnableWord.getLsbD 4 = true := by decide
  have h3 : ctlEnableWord.extractLsb' 0 4 = smiClkSrc := by decide
  rw [bus_ctl_write]
  simp only [cmCtlWrite, h1, h2, h3, ne_eq, not_true_eq_false, if_false]
  rw [if_pos ⟨h, trivial, fun e => hs e.symm⟩]

/-! ### The pin loop (R104) -/

theorem phase_pin_set (s : State) :
    phasePinSet s = pinExit ((s.setFsel ⟨s.x.k.toNat, s.x.k.isLt⟩ s.x.fsel).log
      (.write (0x140 ||| s.x.k.setWidth 9) (s.x.fsel.setWidth 32))) := by
  rw [phasePinSet, issue_write_done (bus_gpio_set _ _ _)]
  have h : ∀ k : BitVec 4, mkDesc true 2 (k.setWidth 5) = 0x140 ||| k.setWidth 9 ∧
      descWrites (mkDesc true 2 (k.setWidth 5)) = true := by decide
  obtain ⟨h1, h2⟩ := h s.x.k
  rw [h1] at h2
  simp only [busEvent, gpioSet, h1, h2, if_true]

/-! ### The timing encoder (R108) -/

theorem slot_desc (k : Fin 8) :
    mkDesc false 0 (BitVec.ofNat 5 (4 + k.val)) = 4 + BitVec.ofNat 9 k.val ∧
    mkDesc true 0 (BitVec.ofNat 5 (4 + k.val)) = 0x104 + BitVec.ofNat 9 k.val ∧
    descWrites (mkDesc false 0 (BitVec.ofNat 5 (4 + k.val))) = false ∧
    descWrites (mkDesc true 0 (BitVec.ofNat 5 (4 + k.val))) = true := by
  revert k; decide

theorem slot_read_event (k : Fin 8) (v : Word) :
    busEvent (smiRead (BitVec.ofNat 5 (4 + k.val))) v = .read (4 + BitVec.ofNat 9 k.val) v := by
  obtain ⟨h1, -, h3, -⟩ := slot_desc k
  rw [h1] at h3
  simp only [busEvent, smiRead, h1, h3, if_false, Bool.false_eq_true]

theorem slot_write_event (k : Fin 8) (v w : Word) :
    busEvent (smiWrite (BitVec.ofNat 5 (4 + k.val)) v) w = .write (0x104 + BitVec.ofNat 9 k.val) v := by
  obtain ⟨-, h2, -, h4⟩ := slot_desc k
  rw [h2] at h4
  simp only [busEvent, smiWrite, h2, h4, if_true]

/-- The slot that SET_TIMING works on. -/
def timingSlot (s : State) : Fin 8 := slotNumber (channelOf s.x.op0) s.x.dir

theorem phase_tim_read (s : State) :
    phaseTimRead s = ((s.log (.read (4 + BitVec.ofNat 9 (timingSlot s).val) s.slot[timingSlot s])).setX
      { s.x with tmp := s.slot[timingSlot s] }).setPc .timWrite := by
  rw [phaseTimRead, timingIndex, slotIndex, issue_read_done (bus_slot_read _ _), slot_read_event]
  rfl

theorem phase_tim_write (s : State) :
    phaseTimWrite s = ((s.setSlot (timingSlot s)
        (slotWord s.x.tmp (countsWord s.x.op1 s.x.op2 s.x.op3 s.x.op4))).log
      (.write (0x104 + BitVec.ofNat 9 (timingSlot s).val)
        (slotWord s.x.tmp (countsWord s.x.op1 s.x.op2 s.x.op3 s.x.op4)))).setPc .respond := by
  rw [phaseTimWrite, timingIndex, slotIndex, issue_write_done (bus_slot_write _ _ _), slot_write_event]
  rfl

/-! ### The direct transfer (R115 to R122) -/

/-- The value that a DCS read returns in a state (R83). -/
def dcsValue (s : State) : Word := dcsReadWord s.dcs (Config.draw 1 s.draws) (Config.draw 28 s.draws)

@[simp] theorem dcs_done_value (s : State) : dcsDone (dcsValue s) = s.dcs.done := dcs_done_read_word _ _ _

theorem phase_xf_check (s : State) :
    phaseXfCheck s =
      let t := s.nextDraw.log (.read 0x00D (dcsValue s))
      if s.dcs.done then (t.setX { s.x with stale := true }).setPc .xfClearStale else t.setPc .xfAddr := by
  rw [phaseXfCheck, issue_read_done (by rw [bus_dcs_read]; rfl), dcs_read_event]
  simp only [dcs_done_read_word]
  rfl

theorem phase_xf_clear_stale (s : State) :
    phaseXfClearStale s = ((s.setDcs ⟨false, false, false⟩).log (.write 0x10D 0x4)).setPc .xfAddr := by
  have h : dcsWrite doneBit s = .done doneBit (s.setDcs ⟨false, false, false⟩) := by
    obtain ⟨h, -, -⟩ | ⟨-, -, he⟩ | ⟨h, -⟩ | ⟨h, -⟩ := dcs_write_cases doneBit s
    · exact absurd h (by decide)
    · rw [he]; simp [dcsStore, doneBit]
    · exact absurd h (by decide)
    · exact absurd h (by decide)
  rw [phaseXfClearStale, issue_write_done (by rw [bus_dcs_write]; exact h), dcs_write_event]
  rfl

theorem phase_xf_clear_done (s : State) :
    phaseXfClearDone s = ((s.setDcs ⟨false, false, false⟩).log (.write 0x10D 0x4)).setPc .respond := by
  have h : dcsWrite doneBit s = .done doneBit (s.setDcs ⟨false, false, false⟩) := by
    obtain ⟨h, -, -⟩ | ⟨-, -, he⟩ | ⟨h, -⟩ | ⟨h, -⟩ := dcs_write_cases doneBit s
    · exact absurd h (by decide)
    · rw [he]; simp [dcsStore, doneBit]
    · exact absurd h (by decide)
    · exact absurd h (by decide)
  rw [phaseXfClearDone, issue_write_done (by rw [bus_dcs_write]; exact h), dcs_write_event]
  rfl

theorem phase_xf_addr (s : State) :
    phaseXfAddr s = ((s.setDa (daWord s.x.op0 s.x.op1)).log (.write 0x10E (daWord s.x.op0 s.x.op1))).setPc
      (match s.x.dir with | .write => .xfData | .read => .xfTrigger) := by
  rw [phaseXfAddr, issue_write_done (by rw [bus_da_write]; rfl), da_write_event]
  rfl

theorem phase_xf_data (s : State) :
    phaseXfData s = ((s.setDd (ddWord s.x.op2)).log (.write 0x10F (ddWord s.x.op2))).setPc .xfTrigger := by
  rw [phaseXfData, issue_write_done (by rw [bus_dd_write]; rfl), dd_write_event]

/-- XF_TRIGGER with a transfer in flight faults (R129). -/
theorem phase_xf_trigger_pending (s : State) (h : s.pending.isSome = true) :
    phaseXfTrigger s = s.takeFault .startWhilePending (some (smiWrite idxDcs (triggerWord s.x.dir))) := by
  refine issue_write_fault ?_
  rw [bus_dcs_write]
  have hs : dcsStarts (triggerWord s.x.dir) = true := by cases s.x.dir <;> decide
  simp [dcsWrite, hs, h]

/-- The DCS bits after a trigger (R56, R84): ENABLE set, DONE kept, WRITE the direction. -/
def triggeredDcs (s : State) : Dcs := ⟨true, s.dcs.done, s.x.dir == .write⟩

theorem trigger_facts (d : Dir) (c : Dcs) :
    dcsStarts (triggerWord d) = true ∧ (triggerWord d).getLsbD 0 = true ∧
    dcsStore (triggerWord d) c = ⟨true, c.done, d == .write⟩ ∧
    dcsDir ⟨true, c.done, d == .write⟩ = d := by
  obtain ⟨e, n, w⟩ := c
  cases d <;> cases e <;> cases n <;> cases w <;> decide

/-- XF_TRIGGER through an 8-bit slot starts the transfer (R119). -/
theorem phase_xf_trigger_start (s : State) (h : s.pending = none)
    (hw : slotWidth (startedXfer s s.x.dir).slot = width8Code) :
    phaseXfTrigger s = (((s.setDcs (triggeredDcs s)).setPending (some (startedXfer s s.x.dir))).log
      (.write 0x10D (triggerWord s.x.dir))).setPc .xfPoll := by
  obtain ⟨h1, h2, h3, h4⟩ := trigger_facts s.x.dir s.dcs
  have he : dcsWrite (triggerWord s.x.dir) s = .done (triggerWord s.x.dir)
      ((s.setDcs (triggeredDcs s)).setPending (some (startedXfer s s.x.dir))) := by
    simp only [dcsWrite, h1, h, h3, h4, hw]
    simp [triggeredDcs]
  rw [phaseXfTrigger, issue_write_done (by rw [bus_dcs_write]; exact he), dcs_write_event]

/-- XF_TRIGGER through a slot of another width is refused, and nothing starts (R86). -/
theorem phase_xf_trigger_width (s : State) (h : s.pending = none)
    (hw : slotWidth (startedXfer s s.x.dir).slot ≠ width8Code) :
    phaseXfTrigger s = (((s.setDcs (triggeredDcs s)).log
      (.refused 0x10D (some (triggerWord s.x.dir)) .width)).markRefused .width).setPc .xfPoll := by
  obtain ⟨h1, h2, h3, h4⟩ := trigger_facts s.x.dir s.dcs
  have he : dcsWrite (triggerWord s.x.dir) s = .refused .width (s.setDcs (triggeredDcs s)) := by
    simp only [dcsWrite, h1, h, h3, h4]
    simp [triggeredDcs, hw]
  rw [phaseXfTrigger, issue_write_refused (by rw [bus_dcs_write]; exact he)]
  have hd : mkDesc true 0 idxDcs = 0x10D := by decide
  have hb : descWrites 0x10D = true := by decide
  simp only [smiWrite, busData, hd, hb, if_true]

theorem phase_xf_poll (s : State) :
    phaseXfPoll s = pollNext s.dcs.done ((s.nextDraw.log (.read 0x00D (dcsValue s))).setX
      { s.x with polls := pollsNext s.x.polls }) := by
  rw [phaseXfPoll, issue_read_done (by rw [bus_dcs_read]; rfl), dcs_read_event]
  simp only [dcs_done_read_word]
  rfl

/-- Where a poll read goes (R120). -/
theorem poll_next_cases (d : Bool) (t : State) :
    (d = true ∧ pollNext d t = t.setPc (match t.x.dir with | .read => .xfCapture | .write => .xfClearDone)) ∨
    (d = false ∧ (∃ n, t.cfg.pollLimit = some n ∧ n ≤ t.x.polls.toNat) ∧ pollNext d t = t.respond .timeout 0) ∨
    (d = false ∧ (∀ n, t.cfg.pollLimit = some n → t.x.polls.toNat < n) ∧ pollNext d t = t.setPc .xfPoll) := by
  cases d
  · rcases hl : t.cfg.pollLimit with - | n
    · simp [pollNext, hl]
    · by_cases hn : n ≤ t.x.polls.toNat
      · simp [pollNext, hl, hn]
      · simp [pollNext, hl, hn]; omega
  · exact .inl ⟨rfl, rfl⟩

theorem phase_xf_capture (s : State) :
    phaseXfCapture s = ((s.log (.read 0x00F s.dd)).setX { s.x with rdata := ddByte s.dd }).setPc .xfClearDone := by
  rw [phaseXfCapture, issue_read_done (by rw [bus_dd_read]; rfl), dd_read_event]
  rfl

/-! ### The slot set-up (R132) -/

theorem phase_act_slot_init (s : State) (h : s.x.k.toNat < 8) :
    phaseActSlotInit s = ((s.setSlot ⟨s.x.k.toNat, h⟩ initSlotWord).log
      (.write (0x104 + BitVec.ofNat 9 s.x.k.toNat) initSlotWord)).setPc .actSlotRead := by
  rw [phaseActSlotInit, setupIndex, setup_index_eq _ h, issue_write_done (bus_slot_write _ _ _), slot_write_event]

theorem phase_act_slot_read (s : State) (h : s.x.k.toNat < 8) :
    phaseActSlotRead s = ((s.log (.read (4 + BitVec.ofNat 9 s.x.k.toNat) s.slot[s.x.k.toNat])).setX
      { s.x with tmp := s.slot[s.x.k.toNat] }).setPc .actSlotWrite := by
  rw [phaseActSlotRead, setupIndex, setup_index_eq _ h, issue_read_done (bus_slot_read _ _), slot_read_event]
  rfl

theorem phase_act_slot_write (s : State) (h : s.x.k.toNat < 8) :
    phaseActSlotWrite s = setupExit ((s.setSlot ⟨s.x.k.toNat, h⟩ (slotWord s.x.tmp (defaultCounts s.cfg))).log
      (.write (0x104 + BitVec.ofNat 9 s.x.k.toNat) (slotWord s.x.tmp (defaultCounts s.cfg)))) := by
  rw [phaseActSlotWrite, setupIndex, setup_index_eq _ h, issue_write_done (bus_slot_write _ _ _), slot_write_event]

end Sys2Proof.Machine
end

