-- ==== Sys2Proof/Laws/Step.lean ====
section
/-! SUPPORT. What a step can do, said once: the cases of `exec` and of `step`. -/

namespace Sys2Proof.Machine

/-! ### exec of a command: its admission and its accept step (R135) -/

/-- The accept step of each command (files 41 to 45); a bus row has none. -/
def acceptOf : Instr → State → State
  | .activate, s => acceptActivate s
  | .deactivate, s => startPinLoop opcDeactivate fselInput s
  | .configureClock, s => acceptConfigureClock s
  | .activatePins, s => startPinLoop opcActivatePins fselSmi s
  | .deactivatePins, s => startPinLoop opcDeactivatePins fselInput s
  | .setTiming d ch a b c e, s => acceptSetTiming d ch a b c e s
  | .writeByte ch addr data, s =>
    acceptTransfer { s.x with opc := opcWriteByte, dir := .write, op0 := ch, op1 := addr, op2 := data } s
  | .readByte ch addr, s =>
    acceptTransfer { s.x with opc := opcReadByte, dir := .read, op0 := ch, op1 := addr } s
  | _, s => s

/-- Whether the handle admits the command (R135 check 3). -/
def handleAdmits (i : Instr) (h : HState) : Prop := if i = .activate then h ≠ .active else h = .active

theorem exec_command_next {i : Instr} {s t : State} (hc : i.isCommand = true) (h : exec i s = .next t) :
    s.fault = none ∧
    ((s.pc ≠ .idle ∧ t = s.takeFault .overlap none) ∨
     (s.pc = .idle ∧ i = .activate ∧ s.hstate = .active ∧ t = s.takeFault .unpaired none) ∨
     (s.pc = .idle ∧ i ≠ .activate ∧ s.hstate ≠ .active ∧ t = s.takeFault .unavailable none) ∨
     (s.pc = .idle ∧ handleAdmits i s.hstate ∧ t = acceptOf i (s.setResponse none))) := by
  cases i with
  | activate =>
    obtain ⟨hf, rfl⟩ := while_running_next h
    obtain ⟨a, e⟩ | ⟨a, b, e⟩ | ⟨a, b, e⟩ := admit_activate_cases acceptActivate s
    · exact ⟨hf, .inl ⟨a, e⟩⟩
    · exact ⟨hf, .inr (.inl ⟨a, rfl, b, e⟩)⟩
    · exact ⟨hf, .inr (.inr (.inr ⟨a, by simpa [handleAdmits] using b, e⟩))⟩
  | deactivate | configureClock | activatePins | deactivatePins | setTiming _ _ _ _ _ _ | writeByte _ _ _ | readByte _ _ =>
    obtain ⟨hf, rfl⟩ := while_running_next h
    refine ⟨hf, ?_⟩
    obtain ⟨a, e⟩ | ⟨a, b, e⟩ | ⟨a, b, e⟩ := admit_cases _ s
    · exact .inl ⟨a, e⟩
    · exact .inr (.inr (.inl ⟨a, by simp, b, e⟩))
    · exact .inr (.inr (.inr ⟨a, by simpa [handleAdmits] using b, e⟩))
  | _ => cases hc

/-! ### exec of a bus row: one recorded transaction (R11, R41) -/

/-- The request of a bus row. -/
def requestOf (i : Instr) : BusReq :=
  match encode i with
  | .bus r => r
  | .command _ => ⟨0, 0⟩

theorem fsel_desc (p : BitVec 5) : mkDesc true 2 p = 0x140 ||| p.setWidth 9 := by revert p; decide

theorem exec_bus_row (i : Instr) (hb : i.isCommand = false) (s : State) :
    exec i s = driveBus (requestOf i) (rowEffect i s) s := by
  cases i with
  | fselGpio p v =>
    show driveBus ⟨mkDesc true 2 p, v⟩ (gpioSelect p v s) s = driveBus ⟨0x140 ||| p.setWidth 9, v⟩ (gpioSelect p v s) s
    rw [fsel_desc]
  | activate | deactivate | configureClock | activatePins | deactivatePins | setTiming _ _ _ _ _ _ | writeByte _ _ _
  | readByte _ _ => cases hb
  | _ => rfl

theorem exec_bus_next {i : Instr} {s t : State} (hb : i.isCommand = false) (h : exec i s = .next t) :
    s.fault = none ∧ t = commit (requestOf i) s (rowEffect i s) := by
  rw [exec_bus_row i hb] at h
  exact while_running_next h

/-! ### What decodes on which port -/

theorem decode_command_is_command {ws rest : List Word} {i : Instr} (h : decodeCommand ws = .ok (i, rest)) :
    i.isCommand = true := by
  unfold decodeCommand at h
  split at h
  · cases h
  · split at h
    · split at h <;> first | (cases h; rfl) | cases h
    · cases h

/-- On the command port there are two reasons only why nothing is decoded. -/
theorem decode_command_error {ws : List Word} {e : DecodeError} (h : decodeCommand ws = .error e) :
    e = .illegalCommand ∨ e = .incomplete := by
  unfold decodeCommand at h
  split at h
  · cases h; exact .inr rfl
  · split at h
    · split at h <;> cases h; exact .inr rfl
    · cases h; exact .inl rfl

theorem decode_bus_is_bus {r : BusReq} {i : Instr} (h : decodeBus r = .ok i) : i.isCommand = false := by
  unfold decodeBus at h
  split at h <;> first | (cases h; rfl) | (split at h <;> first | (cases h; rfl) | cases h) | cases h

/-! ### The step -/

/-- What a turn acts on, as an update: the fields are then those of `setSchedule`. -/
@[simp] theorem after_turn_eq (s : State) : s.afterTurn = s.setSchedule s.schedule.tail := rfl

theorem set_schedule_eq_after_turn {s : State} {a : Turn} {ts : List Turn} (hs : s.schedule = a :: ts) :
    s.setSchedule ts = s.afterTurn := by simp [State.afterTurn, State.setSchedule, hs]

/-- What a step that answers a next state did. -/
inductive StepKind (s t : State) : Prop where
  | engine (hs : s.schedule.head? = none ∨ s.schedule.head? = some .engine) (h : t = engineStep s.afterTurn)
  | phase (hs : s.schedule.head? = none ∨ s.schedule.head? = some .controller) (hf : s.fault = none) (h : t = phaseStep s.afterTurn)
  | waits (hs : s.schedule.head? = some .host) (hd : decodeCommand s.port = .error .incomplete) (h : t = s.afterTurn)
  | illegal (hs : s.schedule.head? = some .host) (hf : s.fault = none)
      (hd : decodeCommand s.port = .error .illegalCommand)
      (h : t = admitIllegal (s.afterTurn.setPort s.port.tail))
  | command (i : Instr) (rest : List Word) (hs : s.schedule.head? = some .host)
      (hd : decodeCommand s.port = .ok (i, rest)) (h : exec i (s.afterTurn.setPort rest) = .next t)
  | bus (r : BusReq) (i : Instr) (hs : s.schedule.head? = some (.bus r)) (hp : s.pc = .idle) (hd : decodeBus r = .ok i)
      (h : exec i s.afterTurn = .next t)
  | unlisted (r : BusReq) (e : DecodeError) (hs : s.schedule.head? = some (.bus r)) (hp : s.pc = .idle)
      (hd : decodeBus r = .error e) (hf : s.fault = none) (h : t = s.afterTurn.takeFault .busUnlisted (some r))
  | secondIssuer (r : BusReq) (hs : s.schedule.head? = some (.bus r)) (hp : s.pc ≠ .idle) (hf : s.fault = none)
      (h : t = s.afterTurn.takeFault .overlap none)

theorem step_kind {s t : State} (h : step s = .next t) : StepKind s t := by
  unfold step at h
  split at h
  · next ts hs =>
    have e : s.setSchedule ts = s.afterTurn := set_schedule_eq_after_turn hs
    rw [e] at h
    unfold hostStep at h
    have hp : s.afterTurn.port = s.port := rfl
    rw [hp] at h
    split at h
    · next i rest hd => exact .command i rest (by simp [hs]) hd h
    · next hd =>
      obtain ⟨hf, he⟩ := while_running_next h
      exact .illegal (by simp [hs]) hf hd he
    · next e hne hd =>
      cases h
      obtain rfl | rfl := decode_command_error hd
      · exact absurd rfl hne
      · exact .waits (by simp [hs]) hd rfl
  · next r ts hs =>
    have e : s.setSchedule ts = s.afterTurn := set_schedule_eq_after_turn hs
    rw [e] at h
    unfold busStep at h
    split at h
    · next hp =>
      obtain ⟨hf, he⟩ := while_running_next h
      exact .secondIssuer r (by simp [hs]) hp hf he
    · next hp =>
      have hp : s.pc = .idle := Decidable.not_not.mp hp
      split at h
      · next i hd => exact .bus r i (by simp [hs]) hp hd h
      · next er hd =>
        obtain ⟨hf, he⟩ := while_running_next h
        exact .unlisted r er (by simp [hs]) hp hd hf he
  · next ts hs =>
    have e : s.setSchedule ts = s.afterTurn := set_schedule_eq_after_turn hs
    rw [e] at h
    obtain ⟨hf, he⟩ := while_running_next h
    exact .phase (.inr (by simp [hs])) hf he
  · next ts hs =>
    have e : s.setSchedule ts = s.afterTurn := set_schedule_eq_after_turn hs
    rw [e] at h
    cases h; exact .engine (.inr (by simp [hs])) rfl
  · next hs =>
    have e : s.afterTurn = s := by
      cases s; simp_all [State.afterTurn]
    split at h
    · cases h; exact .engine (.inl (by simp [hs])) (by rw [e])
    · obtain ⟨hf, he⟩ := while_running_next h
      exact .phase (.inl (by simp [hs])) hf (by rw [e]; exact he)

/-- Only a host's turn takes words from the command port. -/
theorem port_after_turn_of_no_host {s : State} (h : s.schedule.head? ≠ some .host) : s.portAfterTurn = s.port := by
  unfold State.portAfterTurn
  split <;> first | rfl | exact absurd ‹_› h

/-! ### The engine (R97) -/

theorem engine_step_cases (s : State) :
    (∃ x, s.pending = some x ∧ s.clockOK = true ∧ engineStep s = completeXfer s x) ∨
    (s.engineEnabled = false ∧ engineStep s = s) := by
  unfold engineStep State.engineEnabled
  cases hp : s.pending with
  | none => right; simp
  | some x => cases hc : s.clockOK <;> simp

end Sys2Proof.Machine
end

