-- ==== Sys2Proof/Laws/PerInstr.lean ====
section
/-! SUPPORT. The encoded form of each instruction (R48, R49, R59, R60): the family `EncodedForm` of LAWS.json. -/

namespace Sys2Proof.Laws.EncodedForm

open Sys2Proof Sys2Proof.Machine

/-- The words of a command are a legal header and as many operand words as its opcode has (R48, R49, R50); a well-formed bus
row has the descriptor and data word that decode to it (R59), so no bus row is encoded as a reserved descriptor (R60). -/
def Statement (i : Instr) : Prop :=
  (i.isCommand = true → ∃ h ops, encode i = .command (h :: ops) ∧ headerLegal h = true ∧
    ops.length = operandCount (headerOpc h)) ∧
  (i.isCommand = false → i.wellFormed = true → ∃ r, encode i = .bus r ∧ decodeBus r = .ok i)

/-- A command's form is enough. -/
theorem of_command {i : Instr} (h : Word) (ops : List Word) (hc : i.isCommand = true)
    (he : encode i = .command (h :: ops)) (hl : headerLegal h = true) (hn : ops.length = operandCount (headerOpc h)) :
    Statement i :=
  ⟨fun _ => ⟨h, ops, he, hl, hn⟩, fun hb => absurd (hb.symm.trans hc) (by decide)⟩

/-- A bus row's form is enough. -/
theorem of_bus {i : Instr} (r : BusReq) (hb : i.isCommand = false) (he : encode i = .bus r)
    (hd : i.wellFormed = true → decodeBus r = .ok i) : Statement i :=
  ⟨fun hc => absurd (hc.symm.trans hb) (by decide), fun _ hw => ⟨r, he, hd hw⟩⟩

theorem activate : Statement .activate :=
  of_command (header 0x01 .read) [] rfl rfl (by decide) rfl

theorem deactivate : Statement .deactivate :=
  of_command (header 0x02 .read) [] rfl rfl (by decide) rfl

theorem configureClock : Statement .configureClock :=
  of_command (header 0x03 .read) [] rfl rfl (by decide) rfl

theorem activatePins : Statement .activatePins :=
  of_command (header 0x04 .read) [] rfl rfl (by decide) rfl

theorem deactivatePins : Statement .deactivatePins :=
  of_command (header 0x05 .read) [] rfl rfl (by decide) rfl

theorem setTiming (d : Dir) (ch setup strobe hold pace : Word) : Statement (.setTiming d ch setup strobe hold pace) :=
  of_command (header 0x06 d) [ch, setup, strobe, hold, pace] rfl rfl (by cases d <;> decide) (by cases d <;> rfl)

theorem writeByte (ch addr data : Word) : Statement (.writeByte ch addr data) :=
  of_command (header 0x07 .read) [ch, addr, data] rfl rfl (by decide) rfl

theorem readByte (ch addr : Word) : Statement (.readByte ch addr) :=
  of_command (header 0x08 .read) [ch, addr] rfl rfl (by decide) rfl

theorem rdCs : Statement .rdCs := of_bus ⟨0x000, 0⟩ rfl rfl fun _ => by decide

theorem wrCs (v : Word) : Statement (.wrCs v) := of_bus ⟨0x100, v⟩ rfl rfl fun _ => by simp only [decodeBus]; rfl

theorem rdDsr0 : Statement .rdDsr0 := of_bus ⟨0x004, 0⟩ rfl rfl fun _ => by decide

theorem wrDsr0 (v : Word) : Statement (.wrDsr0 v) := of_bus ⟨0x104, v⟩ rfl rfl fun _ => by simp only [decodeBus]; rfl

theorem rdDsw0 : Statement .rdDsw0 := of_bus ⟨0x005, 0⟩ rfl rfl fun _ => by decide

theorem wrDsw0 (v : Word) : Statement (.wrDsw0 v) := of_bus ⟨0x105, v⟩ rfl rfl fun _ => by simp only [decodeBus]; rfl

theorem rdDsr1 : Statement .rdDsr1 := of_bus ⟨0x006, 0⟩ rfl rfl fun _ => by decide

theorem wrDsr1 (v : Word) : Statement (.wrDsr1 v) := of_bus ⟨0x106, v⟩ rfl rfl fun _ => by simp only [decodeBus]; rfl

theorem rdDsw1 : Statement .rdDsw1 := of_bus ⟨0x007, 0⟩ rfl rfl fun _ => by decide

theorem wrDsw1 (v : Word) : Statement (.wrDsw1 v) := of_bus ⟨0x107, v⟩ rfl rfl fun _ => by simp only [decodeBus]; rfl

theorem rdDsr2 : Statement .rdDsr2 := of_bus ⟨0x008, 0⟩ rfl rfl fun _ => by decide

theorem wrDsr2 (v : Word) : Statement (.wrDsr2 v) := of_bus ⟨0x108, v⟩ rfl rfl fun _ => by simp only [decodeBus]; rfl

theorem rdDsw2 : Statement .rdDsw2 := of_bus ⟨0x009, 0⟩ rfl rfl fun _ => by decide

theorem wrDsw2 (v : Word) : Statement (.wrDsw2 v) := of_bus ⟨0x109, v⟩ rfl rfl fun _ => by simp only [decodeBus]; rfl

theorem rdDsr3 : Statement .rdDsr3 := of_bus ⟨0x00A, 0⟩ rfl rfl fun _ => by decide

theorem wrDsr3 (v : Word) : Statement (.wrDsr3 v) := of_bus ⟨0x10A, v⟩ rfl rfl fun _ => by simp only [decodeBus]; rfl

theorem rdDsw3 : Statement .rdDsw3 := of_bus ⟨0x00B, 0⟩ rfl rfl fun _ => by decide

theorem wrDsw3 (v : Word) : Statement (.wrDsw3 v) := of_bus ⟨0x10B, v⟩ rfl rfl fun _ => by simp only [decodeBus]; rfl

theorem rdDcs : Statement .rdDcs := of_bus ⟨0x00D, 0⟩ rfl rfl fun _ => by decide

theorem wrDcs (v : Word) : Statement (.wrDcs v) := of_bus ⟨0x10D, v⟩ rfl rfl fun _ => by simp only [decodeBus]; rfl

theorem rdDa : Statement .rdDa := of_bus ⟨0x00E, 0⟩ rfl rfl fun _ => by decide

theorem wrDa (v : Word) : Statement (.wrDa v) := of_bus ⟨0x10E, v⟩ rfl rfl fun _ => by simp only [decodeBus]; rfl

theorem rdDd : Statement .rdDd := of_bus ⟨0x00F, 0⟩ rfl rfl fun _ => by decide

theorem wrDd (v : Word) : Statement (.wrDd v) := of_bus ⟨0x10F, v⟩ rfl rfl fun _ => by simp only [decodeBus]; rfl

theorem rdCmCtl : Statement .rdCmCtl := of_bus ⟨0x020, 0⟩ rfl rfl fun _ => by decide

theorem wrCmCtl (v : Word) : Statement (.wrCmCtl v) := of_bus ⟨0x120, v⟩ rfl rfl fun _ => by simp only [decodeBus]; rfl

theorem rdCmDiv : Statement .rdCmDiv := of_bus ⟨0x021, 0⟩ rfl rfl fun _ => by decide

theorem wrCmDiv (v : Word) : Statement (.wrCmDiv v) := of_bus ⟨0x121, v⟩ rfl rfl fun _ => by simp only [decodeBus]; rfl

theorem fselGpio (p : BitVec 5) (v : Word) : Statement (.fselGpio p v) := by
  refine of_bus ⟨0x140 ||| p.setWidth 9, v⟩ rfl rfl fun hw => ?_
  have h : ∀ q : BitVec 5, (descTgt (0x140 ||| q.setWidth 9)).toNat = 2 ∧ descWrites (0x140 ||| q.setWidth 9) = true ∧
      descIdx (0x140 ||| q.setWidth 9) = q := by decide
  obtain ⟨h1, h2, h3⟩ := h p
  have hp : pinInSet p = true := hw
  simp only [decodeBus, h1, h2, h3, hp, if_true]

end Sys2Proof.Laws.EncodedForm
end

