-- ==== Sys2Proof/Laws/Run.lean ====
section
/-! SUPPORT. Runs of the machine: one step at a time, and the step of each turn. -/

namespace Sys2Proof.Machine

theorem run_zero (s : State) : run 0 s = .next s := rfl

theorem run_unfold (n : Nat) (s : State) :
    run (n + 1) s = match step s with
      | .next t => run n t
      | .fault r => .fault r
      | .refused r => .refused r := by
  have h : ∀ (M : Host.Core) (k : Nat) (u : M.State), M.run (k + 1) u =
      match M.step u with
      | .next t => M.run k t
      | .fault r => .fault r
      | .refused r => .refused r := fun _ _ _ => rfl
  refine (h Sys2Proof.core n s).trans ?_
  generalize ho : Sys2Proof.core.step s = o
  have hs : step s = o := ho
  rw [hs]
  cases o <;> rfl

/-- A run goes on from the state its first step answers. -/
theorem run_succ {s t : State} (n : Nat) (h : step s = .next t) : run (n + 1) s = run n t := by
  rw [run_unfold, h]

/-- Runs chain. -/
theorem run_add {s t : State} {n : Nat} (m : Nat) (h : run n s = .next t) : run (n + m) s = run m t := by
  induction n generalizing s with
  | zero => cases h; rw [Nat.zero_add]
  | succ n ih =>
    rw [Nat.add_right_comm, run_unfold]
    rw [run_unfold] at h
    cases hs : step s with
    | next u => rw [hs] at h; exact ih h
    | fault r => rw [hs] at h; cases h
    | refused r => rw [hs] at h; cases h

/-- The host's turn with a whole command at the front of the port (R135). -/
theorem step_host {s : State} {ts : List Turn} {i : Instr} {rest : List Word} (hs : s.schedule = .host :: ts)
    (hd : decodeCommand s.port = .ok (i, rest)) : step s = exec i ((s.setSchedule ts).setPort rest) := by
  simp only [step, hs, hostStep, State.setSchedule_port, hd]

/-- A harness's turn in IDLE with a listed descriptor (R60). -/
theorem step_bus {s : State} {ts : List Turn} {r : BusReq} {i : Instr} (hs : s.schedule = .bus r :: ts)
    (hp : s.pc = .idle) (hd : decodeBus r = .ok i) : step s = exec i (s.setSchedule ts) := by
  simp [step, hs, busStep, hp, hd]

/-- A harness's turn while a command is in progress (R149). -/
theorem step_bus_overlap {s : State} {ts : List Turn} {r : BusReq} (hs : s.schedule = .bus r :: ts)
    (hp : s.pc ≠ .idle) (hf : s.fault = none) :
    step s = .next ((s.setSchedule ts).takeFault .overlap none) := by
  simp [step, hs, busStep, hp, while_running_of_none, hf]

/-- The controller's turn is its phase (R15). -/
theorem step_controller {s : State} {ts : List Turn} (hs : s.schedule = .controller :: ts) (hf : s.fault = none) :
    step s = .next (phaseStep (s.setSchedule ts)) := by
  simp only [step, hs, controllerStep]
  exact while_running_of_none _ hf

/-- The engine's turn (R97). -/
theorem step_engine {s : State} {ts : List Turn} (hs : s.schedule = .engine :: ts) :
    step s = .next (engineStep (s.setSchedule ts)) := by
  simp only [step, hs]

/-! ### The controller's turns, phase by phase, over a run -/

/-- The next turn is the controller's, at phase `p`, and no fault has happened. -/
structure AtPhase (s : State) (p : Phase) (ts : List Turn) : Prop where
  turn : s.schedule = .controller :: ts
  clean : s.fault = none
  pc : s.pc = p

theorem run_phase {s t : State} {p : Phase} {ts : List Turn} (n : Nat) (h : AtPhase s p ts)
    (e : phaseStep (s.setSchedule ts) = t) : run (n + 1) s = run n t :=
  e ▸ run_succ n (step_controller h.turn h.clean)

theorem run_clk_disable {s : State} {ts : List Turn} (n : Nat) (h : AtPhase s .clkDisable ts) :
    run (n + 1) s = run n { s with
      schedule := ts, pc := .clkDivide, clk := ⟨false, 0, s.clk.divi, s.clk.divf⟩
      history := s.history ++ [.write 0x120 0x5A000000] } := by
  refine run_phase n h ?_
  simp only [phaseStep, State.setSchedule_pc, h.pc]
  exact phase_clk_disable _

theorem run_clk_divide {s : State} {ts : List Turn} (n : Nat) (h : AtPhase s .clkDivide ts) (he : s.clk.enab = false) :
    run (n + 1) s = run n { s with
      schedule := ts, pc := .clkEnable, clk := ⟨s.clk.enab, s.clk.src, 4, 0⟩
      history := s.history ++ [.write 0x121 0x5A004000] } := by
  refine run_phase n h ?_
  simp only [phaseStep, State.setSchedule_pc, h.pc]
  exact phase_clk_divide _ he

theorem run_clk_enable {s : State} {ts : List Turn} (n : Nat) (h : AtPhase s .clkEnable ts)
    (he : s.clk.enab = false ∨ s.clk.src = 6) :
    run (n + 1) s = run n (clkExit { s with
      schedule := ts, clk := ⟨true, 6, s.clk.divi, s.clk.divf⟩
      history := s.history ++ [.write 0x120 0x5A000016] }) := by
  have e : phaseStep (s.setSchedule ts) = phaseClkEnable (s.setSchedule ts) := by
    simp only [phaseStep, State.setSchedule_pc, h.pc]
  exact run_phase n h (e.trans (phase_clk_enable (s.setSchedule ts) he))

/-- The request of the pin loop at `x[k]` (R104). -/
theorem run_pin_set {s : State} {ts : List Turn} (n : Nat) (h : AtPhase s .pinSet ts) :
    run (n + 1) s = run n (pinExit { s with
      schedule := ts, fsel := s.fsel.set s.x.k.toNat s.x.fsel s.x.k.isLt
      history := s.history ++ [.write (0x140 ||| s.x.k.setWidth 9) (s.x.fsel.setWidth 32)] }) := by
  have e : phaseStep (s.setSchedule ts) = phasePinSet (s.setSchedule ts) := by
    simp only [phaseStep, State.setSchedule_pc, h.pc]
  exact run_phase n h (e.trans (phase_pin_set _))

theorem run_tim_read {s : State} {ts : List Turn} (n : Nat) (h : AtPhase s .timRead ts) :
    run (n + 1) s = run n { s with
      schedule := ts, pc := .timWrite, x := { s.x with tmp := s.slot[timingSlot s] }
      history := s.history ++ [.read (4 + BitVec.ofNat 9 (timingSlot s).val) s.slot[timingSlot s]] } := by
  refine run_phase n h ?_
  simp only [phaseStep, State.setSchedule_pc, h.pc]
  exact phase_tim_read _

theorem run_tim_write {s : State} {ts : List Turn} (n : Nat) (h : AtPhase s .timWrite ts) :
    run (n + 1) s = run n { s with
      schedule := ts, pc := .respond
      slot := s.slot.set (timingSlot s) (slotWord s.x.tmp (countsWord s.x.op1 s.x.op2 s.x.op3 s.x.op4))
      history := s.history ++ [.write (0x104 + BitVec.ofNat 9 (timingSlot s).val)
        (slotWord s.x.tmp (countsWord s.x.op1 s.x.op2 s.x.op3 s.x.op4))] } := by
  refine run_phase n h ?_
  simp only [phaseStep, State.setSchedule_pc, h.pc]
  exact phase_tim_write _

theorem run_xf_check_stale {s : State} {ts : List Turn} (n : Nat) (h : AtPhase s .xfCheck ts) (hd : s.dcs.done = true) :
    run (n + 1) s = run n { s with
      schedule := ts, pc := .xfClearStale, x := { s.x with stale := true }, draws := s.draws + 1
      history := s.history ++ [.read 0x00D (dcsValue s)] } := by
  refine run_phase n h ?_
  simp only [phaseStep, State.setSchedule_pc, h.pc]
  refine (phase_xf_check _).trans ?_
  simp only [State.setSchedule_dcs, hd, if_true]
  rfl

theorem run_xf_check {s : State} {ts : List Turn} (n : Nat) (h : AtPhase s .xfCheck ts) (hd : s.dcs.done = false) :
    run (n + 1) s = run n { s with
      schedule := ts, pc := .xfAddr, draws := s.draws + 1
      history := s.history ++ [.read 0x00D (dcsValue s)] } := by
  refine run_phase n h ?_
  simp only [phaseStep, State.setSchedule_pc, h.pc]
  refine (phase_xf_check _).trans ?_
  simp only [State.setSchedule_dcs, hd, if_false, Bool.false_eq_true]
  rfl

theorem run_xf_clear_stale {s : State} {ts : List Turn} (n : Nat) (h : AtPhase s .xfClearStale ts) :
    run (n + 1) s = run n { s with
      schedule := ts, pc := .xfAddr, dcs := ⟨false, false, false⟩
      history := s.history ++ [.write 0x10D 0x4] } := by
  refine run_phase n h ?_
  simp only [phaseStep, State.setSchedule_pc, h.pc]
  exact phase_xf_clear_stale _

theorem run_xf_addr {s : State} {ts : List Turn} (n : Nat) (h : AtPhase s .xfAddr ts) :
    run (n + 1) s = run n { s with
      schedule := ts, pc := (match s.x.dir with | .write => .xfData | .read => .xfTrigger)
      da := daWord s.x.op0 s.x.op1
      history := s.history ++ [.write 0x10E (daWord s.x.op0 s.x.op1)] } := by
  refine run_phase n h ?_
  simp only [phaseStep, State.setSchedule_pc, h.pc]
  exact phase_xf_addr _

theorem run_xf_data {s : State} {ts : List Turn} (n : Nat) (h : AtPhase s .xfData ts) :
    run (n + 1) s = run n { s with
      schedule := ts, pc := .xfTrigger, dd := ddWord s.x.op2
      history := s.history ++ [.write 0x10F (ddWord s.x.op2)] } := by
  refine run_phase n h ?_
  simp only [phaseStep, State.setSchedule_pc, h.pc]
  exact phase_xf_data _

theorem run_xf_trigger {s : State} {ts : List Turn} (n : Nat) (h : AtPhase s .xfTrigger ts) (hp : s.pending = none)
    (hw : slotWidth (startedXfer s s.x.dir).slot = width8Code) :
    run (n + 1) s = run n { s with
      schedule := ts, pc := .xfPoll, dcs := triggeredDcs s, pending := some (startedXfer s s.x.dir)
      history := s.history ++ [.write 0x10D (triggerWord s.x.dir)] } := by
  refine run_phase n h ?_
  simp only [phaseStep, State.setSchedule_pc, h.pc]
  exact phase_xf_trigger_start _ hp hw

theorem run_xf_poll {s : State} {ts : List Turn} (n : Nat) (h : AtPhase s .xfPoll ts) :
    run (n + 1) s = run n (pollNext s.dcs.done { s with
      schedule := ts, draws := s.draws + 1, x := { s.x with polls := pollsNext s.x.polls }
      history := s.history ++ [.read 0x00D (dcsValue s)] }) := by
  refine run_phase n h ?_
  simp only [phaseStep, State.setSchedule_pc, h.pc]
  exact phase_xf_poll _

theorem run_xf_capture {s : State} {ts : List Turn} (n : Nat) (h : AtPhase s .xfCapture ts) :
    run (n + 1) s = run n { s with
      schedule := ts, pc := .xfClearDone, x := { s.x with rdata := ddByte s.dd }
      history := s.history ++ [.read 0x00F s.dd] } := by
  refine run_phase n h ?_
  simp only [phaseStep, State.setSchedule_pc, h.pc]
  exact phase_xf_capture _

theorem run_xf_clear_done {s : State} {ts : List Turn} (n : Nat) (h : AtPhase s .xfClearDone ts) :
    run (n + 1) s = run n { s with
      schedule := ts, pc := .respond, dcs := ⟨false, false, false⟩
      history := s.history ++ [.write 0x10D 0x4] } := by
  refine run_phase n h ?_
  simp only [phaseStep, State.setSchedule_pc, h.pc]
  exact phase_xf_clear_done _

theorem run_act_slot_init {s : State} {ts : List Turn} (n : Nat) (h : AtPhase s .actSlotInit ts) (hk : s.x.k.toNat < 8) :
    run (n + 1) s = run n { s with
      schedule := ts, pc := .actSlotRead, slot := s.slot.set s.x.k.toNat 0 hk
      history := s.history ++ [.write (0x104 + BitVec.ofNat 9 s.x.k.toNat) 0] } := by
  have e : phaseStep (s.setSchedule ts) = phaseActSlotInit (s.setSchedule ts) := by
    simp only [phaseStep, State.setSchedule_pc, h.pc]
  exact run_phase n h (e.trans (phase_act_slot_init (s.setSchedule ts) hk))

theorem run_act_slot_read {s : State} {ts : List Turn} (n : Nat) (h : AtPhase s .actSlotRead ts) (hk : s.x.k.toNat < 8) :
    run (n + 1) s = run n { s with
      schedule := ts, pc := .actSlotWrite, x := { s.x with tmp := s.slot[s.x.k.toNat] }
      history := s.history ++ [.read (4 + BitVec.ofNat 9 s.x.k.toNat) s.slot[s.x.k.toNat]] } := by
  have e : phaseStep (s.setSchedule ts) = phaseActSlotRead (s.setSchedule ts) := by
    simp only [phaseStep, State.setSchedule_pc, h.pc]
  exact run_phase n h (e.trans (phase_act_slot_read (s.setSchedule ts) hk))

theorem run_act_slot_write {s : State} {ts : List Turn} (n : Nat) (h : AtPhase s .actSlotWrite ts) (hk : s.x.k.toNat < 8) :
    run (n + 1) s = run n (setupExit { s with
      schedule := ts, slot := s.slot.set s.x.k.toNat (slotWord s.x.tmp (defaultCounts s.cfg)) hk
      history := s.history ++ [.write (0x104 + BitVec.ofNat 9 s.x.k.toNat)
        (slotWord s.x.tmp (defaultCounts s.cfg))] }) := by
  have e : phaseStep (s.setSchedule ts) = phaseActSlotWrite (s.setSchedule ts) := by
    simp only [phaseStep, State.setSchedule_pc, h.pc]
  exact run_phase n h (e.trans (phase_act_slot_write (s.setSchedule ts) hk))

theorem run_deact_release {s : State} {ts : List Turn} (n : Nat) (h : AtPhase s .deactRelease ts) :
    run (n + 1) s = run n { s with schedule := ts, pc := .respond, hstate := .unmapped } := by
  refine run_phase n h ?_
  simp only [phaseStep, State.setSchedule_pc, h.pc]
  rfl

theorem run_respond {s : State} {ts : List Turn} (n : Nat) (h : AtPhase s .respond ts) :
    run (n + 1) s = run n { s with
      schedule := ts, pc := .idle, response := some ⟨.ok, responseValue s.x⟩ } := by
  refine run_phase n h ?_
  simp only [phaseStep, State.setSchedule_pc, h.pc]
  rfl

end Sys2Proof.Machine
end

