-- ==== Sys2Proof/Machine/Trace.lean ====
section
/-! DEFINITION. The trace syntax (30_encoding.md R64): how an event of the history is written. -/

namespace Sys2Proof.Machine

/-- One digit. -/
def digitChar (n : Nat) : Char := "0123456789ABCDEF".toList.getD n '?'

/-- The low `k` digits of a number, most significant first. -/
def digitsOf (base : Nat) : Nat → Nat → List Char
  | 0, _ => []
  | k + 1, n => digitsOf base k (n / base) ++ [digitChar (n % base)]

/-- R64: "Values are 32-bit hexadecimal". -/
def wordText (v : Word) : String := "0x" ++ String.ofList (digitsOf 16 8 v.toNat)

/-- R64: b is 8-bit hexadecimal. -/
def byteText (b : Byte) : String := String.ofList (digitsOf 16 2 b.toNat)

/-- R64: f is binary. -/
def codeText (f : BitVec 3) : String := "0b" ++ String.ofList (digitsOf 2 3 f.toNat)

/-- An index, decimal, without a leading zero; indices are at most two digits (R59). -/
def indexText (n : Nat) : String := if n < 10 then String.ofList (digitsOf 10 1 n) else String.ofList (digitsOf 10 2 n)

/-- What a descriptor names (R59, R64): `SMI[i]`, `CM.CTL`, `CM.DIV`, `GPIO[p]`. The others are not in R64 (log 24). -/
def targetText (d : BitVec 9) : String :=
  match (descTgt d).toNat, (descIdx d).toNat with
  | 0, i => "SMI[" ++ indexText i ++ "]"
  | 1, 0 => "CM.CTL"
  | 1, 1 => "CM.DIV"
  | 1, i => "CM[" ++ indexText i ++ "]"
  | 2, p => "GPIO[" ++ indexText p ++ "]"
  | t, i => "TGT" ++ indexText t ++ "[" ++ indexText i ++ "]"

/-- A write or a function-select request (R64). -/
def writeText (d : BitVec 9) (v : Word) : String :=
  if (descTgt d).toNat = 2 then "FSEL " ++ targetText d ++ " <- " ++ codeText (fselCode v)
  else "WR " ++ targetText d ++ " <- " ++ wordText v

/-- A transaction that returned no value: the data word says that it is a write. -/
def requestText (d : BitVec 9) : Option Word → String
  | some v => writeText d v
  | none => "RD " ++ targetText d

/-- R139's names. -/
def Refusal.text : Refusal → String
  | .illegalCommand => "X_ILLEGAL_COMMAND"
  | .width => "X_WIDTH"
  | .csAccess => "X_CS_ACCESS"
  | .unmodelledRead => "X_UNMODELLED_READ"
  | _ => "not modelled"

/-- R138's names. -/
def Fault.text : Fault → String
  | .unavailable => "F_UNAVAILABLE"
  | .unpaired => "F_UNPAIRED"
  | .overlap => "F_OVERLAP"
  | .startWhilePending => "F_START_WHILE_PENDING"
  | .clkWhileRunning => "F_CLK_WHILE_RUNNING"
  | .busUnlisted => "F_BUS_UNLISTED"

/-- `r` or `w` (R64). -/
def dirText : Dir → String
  | .read => "r"
  | .write => "w"

/-- R64, and for a transaction that was refused or that faulted, its reason after it; an undriven completion is marked so
(R97; log 24). The base of `addr` from 10 up is this model's choice: R64 gives none and no vector shows one; it is decimal,
as the indices are (DESIGN CHOICE, log 24). -/
def Event.text : Event → String
  | .read d v => "RD " ++ targetText d ++ " -> " ++ wordText v
  | .write d v => writeText d v
  | .refused d v x => requestText d v ++ ", refused " ++ x.text
  | .faulted d v f => requestText d v ++ ", fault " ++ f.text
  | .device c a dir b driven =>
    "DEV ch=" ++ indexText c.toNat ++ " addr=" ++ indexText a.toNat ++ " dir=" ++ dirText dir ++ " byte=" ++ byteText b ++
      (if driven then "" else " undriven")

end Sys2Proof.Machine
end

