-- ==== Sys2Proof/Tests/Slice0.lean ====
section
/-! SUPPORT. Small tests: ill-formed terms, words written out from the spec's encodings, one step of each kind with the
results of 95_test_vectors.md, and for every statement with hypotheses a state and operands that meet them. -/

namespace Sys2Proof.Tests

open Sys2Proof Sys2Proof.Machine

/-! ### States to test on -/

/-- The test parameters of 95_test_vectors.md. -/
def vectorParams : Params :=
  { defaultSetup := 4, defaultStrobe := 8, defaultHold := 4, defaultPace := 1, pollLimit := none, strictChannel := false,
    busResponds := false, device := .loopback, smiBase := 0, cmBase := 0, gpioBase := 0 }

/-- Latches all zero. -/
def zeroLatches : Latches :=
  { opc := 0, dir := .read, op0 := 0, op1 := 0, op2 := 0, op3 := 0, op4 := 0, tmp := 0, rdata := 0, stale := false,
    polls := 0, k := 0, fsel := 0 }

/-- An ACTIVE, idle block as V-ACT-2 leaves it. -/
def ready : State :=
  { cfg := vectorParams, pc := .idle, hstate := .active, x := zeroLatches, fault := none, refused := false,
    refusal := none, response := none, cs := 0, slot := Vector.replicate 8 0x04040108, dcs := ⟨false, false, false⟩,
    da := 0, dd := 0, pending := none, clk := ⟨true, 6, 4, 0⟩, fsel := Vector.replicate 16 0b101, history := [],
    draws := 0, port := [], schedule := [], maps := [] }

/-- The next state, where there is one. -/
def nextOf : Host.Outcome State Fault Refusal → Option State
  | .next t => some t
  | .fault _ => none
  | .refused _ => none

/-- What the next state shows. -/
def after {α : Type} (o : Host.Outcome State Fault Refusal) (f : State → α) : Option α := (nextOf o).map f

/-- A transfer in flight: channel 1, address 9, write 0x3C (V-XF-6). -/
def inFlight : Xfer := ⟨1, 9, .write, 0x3C, 0x04040108⟩

/-- The latches of `write_byte 1, 9, 0x3C`. -/
def writeLatches : Latches := { zeroLatches with opc := 0x07, dir := .write, op0 := 1, op1 := 9, op2 := 0x3C }

/-! ### WellFormed refuses an ill-formed term -/

/-- R95, R60: pin 16 is outside the pin set; pin 15 is in it. -/
theorem test_wellformed_pin : (Instr.fselGpio 16 5).wellFormed = false ∧ (Instr.fselGpio 31 5).wellFormed = false ∧
    (Instr.fselGpio 15 5).wellFormed = true := by decide

/-! ### Decoding, every constructor from a word written out (R47, R48, R59) -/

theorem test_decode_plain_commands :
    decodeCommand [0b00000000000000000000000_0_00000001] = .ok (.activate, []) ∧
    decodeCommand [0b00000000000000000000000_0_00000010] = .ok (.deactivate, []) ∧
    decodeCommand [0b00000000000000000000000_0_00000011] = .ok (.configureClock, []) ∧
    decodeCommand [0b00000000000000000000000_0_00000100] = .ok (.activatePins, []) ∧
    decodeCommand [0b00000000000000000000000_0_00000101] = .ok (.deactivatePins, []) := by decide

theorem test_decode_operand_commands :
    decodeCommand [0b00000000000000000000000_1_00000110, 11, 12, 13, 14, 15, 99] =
      .ok (.setTiming .write 11 12 13 14 15, [99]) ∧
    decodeCommand [0b00000000000000000000000_0_00000110, 11, 12, 13, 14, 15] =
      .ok (.setTiming .read 11 12 13 14 15, []) ∧
    decodeCommand [0b00000000000000000000000_0_00000111, 11, 12, 13, 99] = .ok (.writeByte 11 12 13, [99]) ∧
    decodeCommand [0b00000000000000000000000_0_00001000, 11, 12, 99] = .ok (.readByte 11 12, [99]) := by decide

/-- V-ENC-6 to V-ENC-9, and a command whose words are not all there. -/
theorem test_decode_refuses :
    decodeCommand [0x00000000] = .error .illegalCommand ∧ decodeCommand [0x00000009] = .error .illegalCommand ∧
    decodeCommand [0x00000107] = .error .illegalCommand ∧ decodeCommand [0x00000206] = .error .illegalCommand ∧
    decodeCommand [0x00000008, 0] = .error .incomplete := by decide

theorem test_decode_smi_reads :
    decodeBus ⟨0b0_000_00000, 0⟩ = .ok .rdCs ∧ decodeBus ⟨0b0_000_00100, 0⟩ = .ok .rdDsr0 ∧
    decodeBus ⟨0b0_000_00101, 0⟩ = .ok .rdDsw0 ∧ decodeBus ⟨0b0_000_00110, 0⟩ = .ok .rdDsr1 ∧
    decodeBus ⟨0b0_000_00111, 0⟩ = .ok .rdDsw1 ∧ decodeBus ⟨0b0_000_01000, 0⟩ = .ok .rdDsr2 ∧
    decodeBus ⟨0b0_000_01001, 0⟩ = .ok .rdDsw2 ∧ decodeBus ⟨0b0_000_01010, 0⟩ = .ok .rdDsr3 ∧
    decodeBus ⟨0b0_000_01011, 0⟩ = .ok .rdDsw3 ∧ decodeBus ⟨0b0_000_01101, 0⟩ = .ok .rdDcs ∧
    decodeBus ⟨0b0_000_01110, 0⟩ = .ok .rdDa ∧ decodeBus ⟨0b0_000_01111, 0⟩ = .ok .rdDd := by decide

theorem test_decode_smi_writes :
    decodeBus ⟨0b1_000_00000, 7⟩ = .ok (.wrCs 7) ∧ decodeBus ⟨0b1_000_00100, 7⟩ = .ok (.wrDsr0 7) ∧
    decodeBus ⟨0b1_000_00101, 7⟩ = .ok (.wrDsw0 7) ∧ decodeBus ⟨0b1_000_00110, 7⟩ = .ok (.wrDsr1 7) ∧
    decodeBus ⟨0b1_000_00111, 7⟩ = .ok (.wrDsw1 7) ∧ decodeBus ⟨0b1_000_01000, 7⟩ = .ok (.wrDsr2 7) ∧
    decodeBus ⟨0b1_000_01001, 7⟩ = .ok (.wrDsw2 7) ∧ decodeBus ⟨0b1_000_01010, 7⟩ = .ok (.wrDsr3 7) ∧
    decodeBus ⟨0b1_000_01011, 7⟩ = .ok (.wrDsw3 7) ∧ decodeBus ⟨0b1_000_01101, 7⟩ = .ok (.wrDcs 7) ∧
    decodeBus ⟨0b1_000_01110, 7⟩ = .ok (.wrDa 7) ∧ decodeBus ⟨0b1_000_01111, 7⟩ = .ok (.wrDd 7) := by decide

theorem test_decode_cm_gpio :
    decodeBus ⟨0b0_001_00000, 0⟩ = .ok .rdCmCtl ∧ decodeBus ⟨0b1_001_00000, 7⟩ = .ok (.wrCmCtl 7) ∧
    decodeBus ⟨0b0_001_00001, 0⟩ = .ok .rdCmDiv ∧ decodeBus ⟨0b1_001_00001, 7⟩ = .ok (.wrCmDiv 7) ∧
    decodeBus ⟨0b1_010_00000, 5⟩ = .ok (.fselGpio 0 5) ∧ decodeBus ⟨0b1_010_01111, 5⟩ = .ok (.fselGpio 15 5) ∧
    decodeBus ⟨0b1_010_10000, 5⟩ = .error .unlisted ∧ decodeBus ⟨0b0_010_00000, 5⟩ = .error .unlisted := by decide

/-- V-ENC-11. -/
theorem test_descriptors :
    mkDesc true 0 13 = 0x10D ∧ mkDesc false 0 5 = 0x005 ∧ mkDesc true 1 1 = 0x121 ∧ mkDesc true 2 15 = 0x14F := by decide

/-- The opcode table's numbering: the header is the low word, the next word its first operand. -/
theorem test_table_word :
    decodeTableWord 32 0x00000001 = some .activate ∧
    decodeTableWord 32 (0x00000008 + 5 * 2 ^ 32 + 6 * 2 ^ 64) = some (.readByte 5 6) ∧
    decodeTableWord 16 0x10D = some (.wrDcs 0) ∧ decodeTableWord 16 0x150 = none ∧ decodeTableWord 16 0x400 = none := by
  decide

/-- Placed by `withFetchWord`, the very next step runs it: ACTIVATE while ACTIVE faults (V-ACT-3), and an FSEL row is one
request. -/
theorem test_fetch_word :
    after (step (ready.withFetchWord 32 1)) (·.fault) = some (some ⟨.unpaired, .idle, none⟩) ∧
    after (step (ready.withFetchWord 16 0x142)) (·.history) = some [.write 0x142 0] := by decide

/-! ### Register transactions (V-REG) -/

/-- V-REG-1, V-REG-3. -/
theorem test_dcs_write_clears :
    after (exec (.wrDcs 0x4) { ready with dcs := ⟨true, true, true⟩ }) (fun t => (t.dcs, t.pending)) =
      some (⟨false, false, false⟩, none) ∧
    after (exec (.wrDcs 0x2) ready) (fun t => (t.dcs, t.pending)) = some (⟨false, false, false⟩, none) := by decide

/-- V-REG-4, V-REG-6. -/
theorem test_dcs_write_starts :
    after (exec (.wrDcs 0x3) { ready with da := 0x201, dd := 0x12345678 }) (·.pending) =
      some (some ⟨2, 1, .read, 0x78, 0x04040108⟩) ∧
    after (exec (.wrDcs 0x0) { ready with dcs := ⟨true, false, true⟩, pending := some inFlight })
      (fun t => (t.dcs.enable, t.pending)) = some (false, some inFlight) := by decide

/-- V-REG-5. -/
theorem test_dcs_write_pending :
    after (exec (.wrDcs 0x3) { ready with dcs := ⟨true, false, true⟩, pending := some inFlight })
      (fun t => (t.fault, t.dcs)) =
      some (some ⟨.startWhilePending, .idle, some (0x10D, some 0x3)⟩, ⟨true, false, true⟩) := by decide

/-- V-REG-7. -/
theorem test_dcs_write_width :
    after (exec (.wrDcs 0xB) (ready.setSlot 1 0x40000000)) (fun t => (t.refusal, t.pending)) =
      some (some .width, none) := by decide

/-- V-REG-8. -/
theorem test_cs :
    after (exec .rdCs ready) (·.refusal) = some (some .csAccess) ∧
    after (exec (.wrCs 1) ready) (fun t => (t.refusal, t.cs)) = some (some .csAccess, 0) := by decide

/-- V-REG-9, V-REG-14: each unlisted access faults. -/
theorem test_unlisted :
    after (step { ready with schedule := [.bus ⟨0x00C, 0⟩] }) (·.fault) =
      some (some ⟨.busUnlisted, .idle, some (0x00C, none)⟩) ∧
    after (step { ready with schedule := [.bus ⟨0x101, 0⟩] }) (·.fault) =
      some (some ⟨.busUnlisted, .idle, some (0x101, some 0)⟩) ∧
    after (step { ready with schedule := [.bus ⟨0x150, 5⟩] }) (fun t => (t.fault, t.fsel)) =
      some (some ⟨.busUnlisted, .idle, some (0x150, some 5)⟩, ready.fsel) := by decide

/-- V-REG-10, V-REG-12. -/
theorem test_ctl_write_refused :
    after (exec (.wrCmCtl 0x0) ready) (fun t => (t.clk, t.fault)) = some (⟨true, 6, 4, 0⟩, none) ∧
    after (exec (.wrCmCtl 0x5A000011) ready) (fun t => (t.clk, t.fault)) =
      some (⟨true, 6, 4, 0⟩, some ⟨.clkWhileRunning, .idle, some (0x120, some 0x5A000011)⟩) := by decide

/-- V-REG-13, and the write of CLK_DISABLE. -/
theorem test_ctl_write :
    after (exec (.wrCmCtl 0x5A000016) ready) (fun t => (t.clk, t.fault)) = some (⟨true, 6, 4, 0⟩, none) ∧
    after (exec (.wrCmCtl 0x5A000000) ready) (fun t => (t.clk, t.fault)) = some (⟨false, 0, 4, 0⟩, none) := by decide

/-- V-REG-11, and the write of CLK_DIVIDE. -/
theorem test_div_write :
    after (exec (.wrCmDiv 0x5A004000) ready) (·.fault) =
      some (some ⟨.clkWhileRunning, .idle, some (0x121, some 0x5A004000)⟩) ∧
    after (exec (.wrCmDiv 0x5A004000) { ready with clk := ⟨false, 0, 10, 7⟩ }) (·.clk) = some ⟨false, 0, 4, 0⟩ := by decide

/-- R91, R92. -/
theorem test_cm_reads :
    after (exec .rdCmCtl ready) (·.refusal) = some (some .unmodelledRead) ∧
    after (exec .rdCmDiv ready) (·.refusal) = some (some .unmodelledRead) := by decide

/-- R20, R70, R79: DSW0 is slot 1, DSR3 is slot 6. -/
theorem test_slots :
    after (exec (.wrDsw0 0x0A140114) ready) (fun t => (t.slot[0], t.slot[1], t.slot[2])) =
      some (0x04040108, 0x0A140114, 0x04040108) ∧
    after (exec .rdDsr3 (ready.setSlot 6 0xFF)) (·.history) = some [.read 0x00A 0xFF] := by decide

/-- R88, R90. -/
theorem test_da_dd :
    after (exec (.wrDa 0xFFFFFFFF) ready) (fun t => (t.da, t.dd)) = some (0xFFFFFFFF, 0) ∧
    after (exec (.wrDd 0xFFFFFFFF) ready) (fun t => (t.da, t.dd)) = some (0, 0xFFFFFFFF) := by decide

/-- R95: the code is the low three bits, and only the named pin takes it. -/
theorem test_fsel :
    after (exec (.fselGpio 15 0b000) ready) (fun t => (t.fsel[14], t.fsel[15])) = some (0b101, 0b000) := by decide

/-- V-REG-2: a DCS read clears nothing. -/
theorem test_dcs_read : after (exec .rdDcs { ready with dcs := ⟨true, true, false⟩ }) (·.dcs) =
    some ⟨true, true, false⟩ := by decide

/-! ### The engine (V-REG-15, V-REG-16) -/

theorem test_engine_read :
    after (step { ready with
      pending := some ⟨0, 3, .read, 0, 0x04040108⟩, history := [.device 0 3 .write 0xAB true], schedule := [.engine] })
      (fun t => (t.history, t.dcs.done, t.pending)) =
      some ([.device 0 3 .write 0xAB true, .device 0 3 .read 0xAB true], true, none) := by decide

theorem test_engine_stopped :
    after (step { ready with pending := some inFlight, clk := ⟨false, 6, 4, 0⟩, schedule := [.engine] })
      (fun t => (t.dcs.done, t.pending)) = some (false, some inFlight) := by decide

/-! ### Commands: admission, and one phase each -/

/-- V-ACT-1 and V-ACT-2, the first step; the outcome of the mapping is used up. -/
theorem test_activate :
    after (exec .activate { ready with hstate := .unmapped, maps := [false, true] })
      (fun t => (t.hstate, t.response, t.pc, t.maps)) = some (.failed, some ⟨.unavailable, 0⟩, .idle, [true]) ∧
    after (exec .activate { ready with hstate := .failed, maps := [true] })
      (fun t => (t.hstate, t.response, t.pc, t.maps)) = some (.active, none, .clkDisable, []) := by decide

/-- V-CLK-3, V-ACT-6. -/
theorem test_admission_faults :
    after (exec .configureClock { ready with hstate := .unmapped }) (·.fault) =
      some (some ⟨.unavailable, .idle, none⟩) ∧
    after (exec .deactivate { ready with pc := .xfPoll }) (·.fault) = some (some ⟨.overlap, .xfPoll, none⟩) := by decide

/-- After a fault nothing is run (R142). -/
theorem test_stopped_after_fault :
    nextOf (exec .rdDa { ready with fault := some ⟨.overlap, .xfPoll, none⟩ }) = none := by decide

/-- V-ENC-6: one word consumed, no transaction. -/
theorem test_illegal_header :
    after (step { ready with schedule := [.host], port := [0, 1] }) (fun t => (t.port, t.refusal, t.history)) =
      some ([1], some .illegalCommand, []) := by decide

/-- R99, CLK_DIVIDE and CLK_ENABLE in CONFIGURE_CLOCK. -/
theorem test_clock_phases :
    after (step { ready with pc := .clkDivide, clk := ⟨false, 0, 10, 7⟩, x := { zeroLatches with opc := 0x03 } })
      (fun t => (t.clk, t.pc)) = some (⟨false, 0, 4, 0⟩, .clkEnable) ∧
    after (step { ready with pc := .clkEnable, clk := ⟨false, 0, 4, 0⟩, x := { zeroLatches with opc := 0x03 } })
      (fun t => (t.clk, t.pc)) = some (⟨true, 6, 4, 0⟩, .respond) := by decide

/-- R104, the last pin of ACTIVATE and of DEACTIVATE. -/
theorem test_pin_phase :
    after (step { ready with pc := .pinSet, x := { zeroLatches with opc := 0x01, k := 15, fsel := 0b101 } })
      (fun t => (t.history, t.pc, t.x.k)) = some ([.write 0x14F 0b101], .actSlotInit, 0) ∧
    after (step { ready with pc := .pinSet, x := { zeroLatches with opc := 0x02, k := 15 } })
      (fun t => (t.fsel[15], t.pc)) = some (0b000, .deactRelease) := by decide

/-- V-TIM-2 and V-TIM-8, the write. -/
theorem test_timing_write :
    after (step { ready with
      pc := .timWrite
      x := { zeroLatches with opc := 0x06, op0 := 1, op1 := 69, op2 := 200, op3 := 63, op4 := 0, tmp := 0xC0808080 } })
      (fun t => (t.slot[2], t.history)) = some (0xC5BF80C8, [.write 0x106 0xC5BF80C8]) ∧
    after (step { ready with
      pc := .timWrite
      x := { zeroLatches with
        opc := 0x06, op1 := 0xFFFFFFFF, op2 := 0xFFFFFFFF, op3 := 0xFFFFFFFF, op4 := 0xFFFFFFFF, tmp := 0x00400080 } })
      (·.slot[0]) = some 0x3F7F7FFF := by decide

/-- V-TIM-1, V-TIM-4, V-TIM-5, V-TIM-6, V-TIM-7: the word. -/
theorem test_timing_words :
    slotWord 0 (countsWord 10 20 20 1) = 0x0A140114 ∧ slotWord 0 (countsWord 63 127 63 127) = 0x3F3F7F7F ∧
    slotWord 0xFFFFFFFF (countsWord 63 127 63 127) = 0xFFFFFFFF ∧ slotWord 0 (countsWord 64 128 64 128) = 0 ∧
    slotWord 0x40800000 (countsWord 1 2 3 4) = 0x41830402 := by decide

/-- V-G-2 and V-G-3, legacy and strict. -/
theorem test_guard :
    after (exec (.writeByte 7 3 0x55) ready) (fun t => (t.response, t.pc, t.history)) = some (some ⟨.ok, 0⟩, .idle, []) ∧
    after (exec (.readByte 0xFFFFFFFF 3) { ready with cfg := { vectorParams with strictChannel := true } })
      (fun t => (t.response, t.pc)) = some (some ⟨.invalidArgument, 0⟩, .idle) := by decide

/-- V-ENC-10, V-XF-3: the words of a transfer. -/
theorem test_transfer_words :
    daWord 3 0xFF = 0x0000033F ∧ daWord 2 0x45 = 0x00000205 ∧ ddWord 0x1FF = 0x000000FF ∧
    triggerWord .write = 0x0000000B ∧ triggerWord .read = 0x00000003 := by decide

/-- R119: the trigger starts the transfer; R117: a write goes on to its data. -/
theorem test_transfer_phases :
    after (step { ready with pc := .xfTrigger, da := 0x109, dd := 0x3C, x := writeLatches })
      (fun t => (t.pending, t.dcs, t.pc)) = some (some inFlight, ⟨true, false, true⟩, .xfPoll) ∧
    after (step { ready with pc := .xfAddr, x := writeLatches }) (fun t => (t.da, t.pc)) =
      some (0x109, .xfData) := by decide

/-- R121, R122, READ_BYTE's response. -/
theorem test_read_result :
    after (step { ready with pc := .xfCapture, dd := 0xFFFFFFAB, x := { zeroLatches with opc := 0x08 } })
      (fun t => (t.x.rdata, t.pc)) = some (0xAB, .xfClearDone) ∧
    after (step { ready with pc := .respond, x := { zeroLatches with opc := 0x08, rdata := 0xAB } })
      (fun t => (t.response, t.pc)) = some (some ⟨.ok, 0xAB⟩, .idle) := by decide

/-- R132: the first and the last slot of the set-up. -/
theorem test_slot_setup :
    after (step { ready with pc := .actSlotInit, x := { zeroLatches with opc := 0x01 } })
      (fun t => (t.slot[0], t.pc)) = some (0, .actSlotRead) ∧
    after (step { ready with pc := .actSlotWrite, x := { zeroLatches with opc := 0x01, k := 7 } })
      (fun t => (t.slot[7], t.pc)) = some (0x04040108, .respond) := by decide

/-- R134, DEACT_RELEASE. -/
theorem test_release : after (step { ready with pc := .deactRelease, x := { zeroLatches with opc := 0x02 } })
    (fun t => (t.hstate, t.pc, t.history)) = some (.unmapped, .respond, []) := by decide

/-! ### The text syntax (V-ENC-1, V-ENC-5; R62, R64) -/

theorem test_assembler :
    assembleWords "set_timing 0, w, 10, 20, 20, 1" = some [0x00000106, 0, 0xA, 0x14, 0x14, 1] ∧
    assembleWords "transfer 1, w, 9, 0x3C" = some [0x00000007, 1, 9, 0x3C] ∧
    assembleWords "read_byte 0xFFFFFFFF, 3" = some [0x00000008, 0xFFFFFFFF, 3] ∧
    assembleWords "read_byte 0x100000000, 3" = none ∧ assembleWords "deactivate" = some [2] := by decide

theorem test_trace_text :
    (Event.device 0 3 .read 0xAB true).text = "DEV ch=0 addr=3 dir=r byte=AB" ∧
    (Event.write 0x10D 0xB).text = "WR SMI[13] <- 0x0000000B" ∧
    (Event.write 0x14F 0b101).text = "FSEL GPIO[15] <- 0b101" ∧
    (Event.read 0x005 0x04040108).text = "RD SMI[5] -> 0x04040108" := by decide

/-! ### Witnesses: for every statement with hypotheses, a state and operands that meet them -/

theorem witness_DecodeOfEncodeIsTheInstruction :
    (Instr.fselGpio 15 7).wellFormed = true ∧ encode (.fselGpio 15 7) = .bus ⟨0x14F, 7⟩ ∧
    (Instr.setTiming .write 0xFFFFFFFF 0 0 0 0).wellFormed = true ∧
    encode (.setTiming .write 0xFFFFFFFF 0 0 0 0) = .command [0x106, 0xFFFFFFFF, 0, 0, 0, 0] := by decide

theorem witness_EncodeOfDecodeIsTheWords :
    decodeCommand [0x00000008, 4, 5, 6] = .ok (.readByte 4 5, [6]) ∧
    decodeBus ⟨0x14F, 5⟩ = .ok (.fselGpio 15 5) ∧ descWrites 0x14F = true := by decide

/-- The host's turn with a whole command on the port, and words after it. -/
def hostTurn : State := { ready with schedule := [.host, .engine], port := [0x00000003, 0x00000001] }

theorem witness_HostTurnRunsTheDecodedCommand :
    hostTurn.schedule = .host :: [.engine] ∧ decodeCommand hostTurn.port = .ok (.configureClock, [0x00000001]) := by
  decide

/-- A transfer in flight, being polled. -/
def busy : State := { ready with pc := .xfPoll, dcs := ⟨true, false, true⟩, pending := some inFlight, x := writeLatches }

/-- A harness in the middle of a transfer (R149). -/
def meddling : State := { busy with schedule := [.bus ⟨0x104, 5⟩] }

/-- Both clauses. -/
theorem witness_BusTurnRunsTheDecodedRow :
    ({ ready with schedule := [.bus ⟨0x14F, 5⟩] } : State).schedule = .bus ⟨0x14F, 5⟩ :: [] ∧ ready.pc = .idle ∧
    decodeBus ⟨0x14F, 5⟩ = .ok (.fselGpio 15 5) ∧
    meddling.schedule = .bus ⟨0x104, 5⟩ :: [] ∧ meddling.pc ≠ .idle ∧ meddling.fault = none := by decide

/-- R149: a request of a harness in the middle of a transfer writes nothing. -/
theorem test_second_issuer :
    after (step meddling) (fun t => (t.fault, t.slot, t.history)) =
      some (some ⟨.overlap, .xfPoll, none⟩, busy.slot, busy.history) := by decide

/-- The headers at the edges of the opcode map. -/
theorem witness_IllegalHeadersAreRefused :
    ([0x00000000, 0x00000009, 0x00000107, 0x00000200, 0x00000101, 0xFFFFFFFF].all fun h : Word =>
      decodeCommand [h, 1] = .error .illegalCommand) = true ∧
    ([0x00000001, 0x00000106, 0x00000008].all fun h : Word => decodeCommand [h] ≠ .error .illegalCommand) = true ∧
    ({ ready with schedule := [.host], port := [0x00000009, 1] } : State).Clean ∧
    ({ ready with schedule := [.host], port := [0x00000009, 1] } : State).pc = .idle ∧
    ({ ready with pc := .xfPoll, schedule := [.host], port := [0x00000009, 1] } : State).Clean ∧
    ({ ready with pc := .xfPoll, schedule := [.host], port := [0x00000009, 1] } : State).pc ≠ .idle :=
  ⟨by decide, by decide, by decide, rfl, by decide, by decide⟩

/-- The descriptors at the edges of the register map. -/
theorem witness_UnlistedDescriptorsFault :
    ([0x001, 0x003, 0x00C, 0x010, 0x022, 0x060, 0x040, 0x150, 0x1FF].all fun d : BitVec 9 =>
      decodeBus ⟨d, 0⟩ = .error .unlisted) = true ∧
    ([0x000, 0x004, 0x00B, 0x00D, 0x00F, 0x021, 0x140, 0x14F].all fun d : BitVec 9 =>
      decodeBus ⟨d, 0⟩ ≠ .error .unlisted) = true ∧
    ({ ready with schedule := [.bus ⟨0x00C, 0⟩] } : State).Clean ∧
    ({ ready with schedule := [.bus ⟨0x00C, 0⟩] } : State).pc = .idle := by decide

theorem witness_NumbersAreOperandWords :
    parseNumber "4294967295".toList = some 0xFFFFFFFF ∧ numberValue "4294967296".toList = some 4294967296 ∧
    2 ^ 32 ≤ 4294967296 := by decide

theorem witness_TransferIsWriteByteOrReadByte :
    assembleParts "transfer".toList ["1".toList, ['w'], "9".toList, "0x3C".toList] = some (.writeByte 1 9 0x3C) ∧
    assembleParts "transfer".toList ["1".toList, ['r'], "9".toList] = some (.readByte 1 9) := by decide

theorem witness_SlotReadsReturnTheSlot :
    ready.Clean ∧ (Instr.rdDsr0, (0x004 : BitVec 9), (0 : Fin 8)) ∈ slotReadRows ∧
    (Instr.rdDsw3, (0x00B : BitVec 9), (7 : Fin 8)) ∈ slotReadRows := by decide

theorem witness_SlotWritesStoreTheWord :
    ready.Clean ∧ (Instr.wrDsr0 9, (0x104 : BitVec 9), (0 : Fin 8)) ∈ slotWriteRows 9 ∧
    (Instr.wrDsw3 9, (0x10B : BitVec 9), (7 : Fin 8)) ∈ slotWriteRows 9 := by decide

/-- Also the hypothesis of DcsReadReturnsTheStoredFlags, DaAndDdAreStorage and ClockReadsAreRefused. -/
theorem witness_CsAccessIsRefused : ready.Clean := by decide

theorem witness_StartWhilePendingFaults :
    busy.Clean ∧ (0x00000002 : Word).getLsbD 1 = true ∧ busy.pending ≠ none := by decide

theorem witness_DcsWriteWithoutStartStoresTheFlags :
    busy.Clean ∧ (0x0000000D : Word).getLsbD 1 = false ∧ ready.Clean ∧ ready.pending = none ∧
    (0x00000002 : Word).getLsbD 0 = false := by decide

/-- Both clauses: an 8-bit slot and one that is not, at the highest channel. -/
theorem witness_DcsWriteWithStartSamplesTheTransfer :
    let s : State := { ready with da := 0x300 }
    let t : State := s.setSlot 7 0x40000000
    s.Clean ∧ s.pending = none ∧ (0x0000000F : Word).getLsbD 1 = true ∧ (0x0000000F : Word).getLsbD 0 = true ∧
    (7 : Fin 8).val = 2 * (s.da.extractLsb' 8 2).toNat + (if (0x0000000F : Word).getLsbD 3 then 1 else 0) ∧
    s.slot[(7 : Fin 8)].extractLsb' 30 2 = 0#2 ∧ t.Clean ∧ t.slot[(7 : Fin 8)].extractLsb' 30 2 ≠ 0#2 := by decide

/-- The three cases; the second at a source that differs, the third at the same source and at a stop. -/
theorem witness_CtlWriteIsPasswordGated :
    ready.Clean ∧ (0x59FFFFFF : Word).toNat / 2 ^ 24 ≠ 0x5A ∧ (0x5A000017 : Word).toNat / 2 ^ 24 = 0x5A ∧
    ready.clk.enab = true ∧ (0x5A000017 : Word).getLsbD 4 = true ∧ (0x5A000017 : Word).toNat % 16 ≠ ready.clk.src.toNat ∧
    (0x5A000016 : Word).toNat % 16 = ready.clk.src.toNat ∧ (0x5A000007 : Word).getLsbD 4 = false := by decide

theorem witness_DivWriteNeedsTheClockStopped :
    ready.Clean ∧ (0x5B000000 : Word).toNat / 2 ^ 24 ≠ 0x5A ∧ (0x5AFFFFFF : Word).toNat / 2 ^ 24 = 0x5A ∧
    ready.clk.enab = true ∧ ({ ready with clk := ⟨false, 6, 4, 0⟩ } : State).Clean ∧
    ({ ready with clk := ⟨false, 6, 4, 0⟩ } : State).clk.enab = false := by decide

theorem witness_FunctionSelectSetsOnePin :
    ready.Clean ∧ (15 : BitVec 5).toNat < 16 ∧ 16 ≤ (16 : BitVec 5).toNat := by decide

theorem witness_BusRowsAreThePhasesTransactions :
    (Instr.fselGpio 15 5).wellFormed = true ∧ encode (.fselGpio 15 5) = .bus ⟨0x14F, 5⟩ ∧ ready.fault = none := by decide

/-- One state for each clause. -/
theorem witness_AdmissionFaults :
    busy.Clean ∧ busy.pc ≠ .idle ∧ ready.Clean ∧ ready.pc = .idle ∧ ready.hstate = .active ∧
    ({ ready with hstate := .failed } : State).hstate ≠ .active ∧ Instr.activate.isCommand = true ∧
    (Instr.readByte 4 0).isCommand = true ∧ Instr.readByte 4 0 ≠ .activate := by decide

theorem witness_NothingRunsAfterAFault :
    ({ ready with fault := some ⟨.overlap, .xfPoll, none⟩ } : State).fault = some ⟨.overlap, .xfPoll, none⟩ := by decide

/-- ACTIVATE's turn: the mapping succeeds, then fails; `unmapped` and `failed` both admitCommand it. -/
def activating : State :=
  { ready with
    hstate := .unmapped, maps := [true, false], port := [0x00000001]
    schedule := .host :: List.replicate 44 .controller }

theorem witness_ActivateIsAccepted :
    activating.Clean ∧ activating.pc = .idle ∧ activating.hstate ≠ .active ∧ mapOutcome activating = true ∧
    mapOutcome { activating with hstate := .failed, maps := [false] } = false := by decide

theorem witness_PlainCommandsAreAccepted : ready.Clean ∧ ready.pc = .idle ∧ ready.hstate = .active := by decide

theorem witness_OperandCommandsAreAccepted :
    ready.Clean ∧ ready.pc = .idle ∧ ready.hstate = .active ∧ (3 : Word).toNat ≤ 3 := by decide

theorem witness_ChannelGuardTouchesNothing :
    ready.Clean ∧ ready.pc = .idle ∧ ready.hstate = .active ∧ 3 < (4 : Word).toNat ∧ 3 < (0xFFFFFFFF : Word).toNat := by
  decide

theorem witness_ConfigureClockEndsWithTheClockRunning :
    let s : State := { ready with
      clk := ⟨true, 1, 10, 7⟩, port := [0x00000003], schedule := .host :: List.replicate 4 .controller }
    s.Clean ∧ s.pc = .idle ∧ s.hstate = .active ∧ s.port = 0x00000003 :: [] ∧
    s.schedule = .host :: (List.replicate 4 .controller ++ []) := by decide

theorem witness_PinCommandsSetEveryPin :
    let s : State := { ready with port := [0x00000004], schedule := .host :: List.replicate 17 .controller }
    s.Clean ∧ s.pc = .idle ∧ s.hstate = .active ∧ s.port = (0x04 : BitVec 8).setWidth 32 :: [] ∧
    ({ s with port := [0x00000005] } : State).port = (0x05 : BitVec 8).setWidth 32 :: [] ∧
    s.schedule = .host :: (List.replicate 17 .controller ++ []) := by decide

theorem witness_DeactivateReleasesTheHandle :
    let s : State := { ready with port := [0x00000002], schedule := .host :: List.replicate 18 .controller }
    s.Clean ∧ s.pc = .idle ∧ s.hstate = .active ∧ s.port = 0x00000002 :: [] ∧
    s.schedule = .host :: (List.replicate 18 .controller ++ []) := by decide

theorem witness_ActivateSetsUpTheBlock :
    activating.Clean ∧ activating.pc = .idle ∧ activating.hstate ≠ .active ∧ mapOutcome activating = true ∧
    activating.port = 0x00000001 :: [] ∧ activating.schedule = .host :: (List.replicate 44 .controller ++ []) := by decide

/-- Both directions, at the last channel. -/
theorem witness_SetTimingKeepsTheStaticFlags :
    let s : State := { ready with
      port := [0x00000106, 3, 69, 200, 63, 0], schedule := .host :: List.replicate 3 .controller }
    s.Clean ∧ s.pc = .idle ∧ s.hstate = .active ∧ (3 : Word).toNat ≤ 3 ∧ (7 : Fin 8).val = 2 * (3 : Word).toNat + 1 ∧
    s.port = 0x00000106 :: 3 :: 69 :: 200 :: 63 :: 0 :: [] ∧ (6 : Fin 8).val = 2 * (3 : Word).toNat + 0 ∧
    s.schedule = .host :: (List.replicate 3 .controller ++ []) := by decide

theorem ready_for_transfer (s : State) (hs : s = { ready with port := s.port, schedule := s.schedule, dcs := s.dcs })
    (ch : Word) (h : ch.toNat ≤ 3) (d : Dir) (hw : slotWidth s.slot[slotNumber (channelOf ch) d] = 0) (q : Nat) :
    TransferReady s ch d q := by
  rw [hs] at hw ⊢
  exact ⟨⟨rfl, rfl⟩, rfl, rfl, h, rfl, rfl, hw, fun _ hn => nomatch hn⟩

/-- The same, with the poll bounded. -/
theorem ready_within_limit {s : State} {ch : Word} {d : Dir} {q : Nat} (h : TransferReady s ch d q) (n : Nat)
    (hn : q < n) : TransferReady { s with cfg := { s.cfg with pollLimit := some n } } ch d q :=
  ⟨h.clean, h.idle, h.active, h.channel, h.pending, h.clock, h.width, fun m hm => by cases hm; exact hn⟩

/-- A stale DONE, and three polls. -/
def writing : State :=
  { ready with
    dcs := ⟨true, true, true⟩, port := [0x00000007, 3, 0x45, 0x1FF], schedule := transferTurns 5 2 2 }

theorem witness_WriteByteRunsItsEightSteps :
    TransferReady writing 3 .write 2 ∧
    TransferReady { writing with cfg := { writing.cfg with pollLimit := some 3 } } 3 .write 2 ∧ writing.port = 0x00000007 :: 3 :: 0x45 :: 0x1FF :: [] ∧
    writing.schedule = transferTurns (4 + writing.dcs.done.toNat) 2 2 ++ [] :=
  ⟨ready_for_transfer _ rfl _ (by decide) _ (by decide) _,
    ready_within_limit (ready_for_transfer _ rfl _ (by decide) _ (by decide) _) 3 (by decide), by decide, by decide⟩

/-- No stale DONE, and the pins driven against the loopback device. -/
def reading : State :=
  { ready with port := [0x00000008, 0, 3], schedule := transferTurns 3 0 3 }

theorem witness_ReadByteReturnsTheDevicesByte :
    TransferReady reading 0 .read 0 ∧
    TransferReady { reading with cfg := { reading.cfg with pollLimit := some 1 } } 0 .read 0 ∧ reading.port = 0x00000008 :: 0 :: 3 :: [] ∧
    reading.schedule = transferTurns (3 + reading.dcs.done.toNat) 0 3 ++ [] ∧ reading.driven = true ∧
    reading.cfg.device = .loopback ∧ lastDrivenWrite 0 3 [.device 0 3 .write 0xAB true] = some 0xAB :=
  ⟨ready_for_transfer _ rfl _ (by decide) _ (by decide) _,
    ready_within_limit (ready_for_transfer _ rfl _ (by decide) _ (by decide) _) 1 (by decide), by decide, by decide, by decide, by decide, by decide⟩

theorem witness_LoopbackReadReturnsTheByteWritten :
    let s : State := { ready with
      port := [0x00000007, 0, 3, 0xAB, 0x00000008, 0, 3], schedule := transferTurns 4 0 2 ++ transferTurns 3 1 3 }
    TransferReady s 0 .write 0 ∧ TransferReady s 0 .read 1 ∧ s.driven = true ∧ s.cfg.device = .loopback ∧
    s.port = 0x00000007 :: 0 :: 3 :: 0xAB :: 0x00000008 :: 0 :: 3 :: [] ∧
    s.schedule = transferTurns (4 + s.dcs.done.toNat) 0 2 ++ (transferTurns 3 1 3 ++ []) :=
  ⟨ready_for_transfer _ rfl _ (by decide) _ (by decide) _, ready_for_transfer _ rfl _ (by decide) _ (by decide) _, by decide,
    by decide, by decide, by decide⟩

theorem witness_UnansweredPollNeverEnds :
    busy.Clean ∧ busy.pc = .xfPoll ∧ busy.dcs.done = false ∧ busy.cfg.pollLimit = none ∧ busy.response = none ∧
    busy.schedule = [] ∧ busy.cfg.busResponds = false ∧ ({ busy with clk := ⟨false, 6, 4, 0⟩ } : State).clockOK = false := by
  decide

theorem witness_BoundedPollTimesOut :
    let s : State := { busy with
      cfg := { vectorParams with pollLimit := some 2 }, schedule := List.replicate 2 .controller ++ [.host] }
    s.Clean ∧ s.pc = .xfPoll ∧ s.dcs.done = false ∧ s.cfg.pollLimit = some 2 ∧ s.x.polls = 0 ∧
    s.schedule = List.replicate 2 .controller ++ [.host] := by decide

theorem witness_TriggerOverAnOldTransferFaults :
    let s : State := { busy with pc := .xfTrigger }
    s.Clean ∧ s.pc = .xfTrigger ∧ s.pending = some inFlight := by decide

theorem witness_EngineCompletesARead :
    let s : State := { ready with
      schedule := [.engine], pending := some ⟨0, 3, .read, 0, 0x04040108⟩, history := [.device 0 3 .write 0xAB true] }
    s.schedule = .engine :: [] ∧ s.pending = some ⟨0, 3, .read, 0, 0x04040108⟩ ∧ s.clockOK = true ∧ s.driven = true ∧
    s.cfg.device = .loopback ∧ lastDrivenWrite 0 3 s.history = some 0xAB := by decide

theorem witness_EngineCompletesAWrite :
    let s : State := { busy with schedule := [.engine] }
    s.schedule = .engine :: [] ∧ s.pending = some inFlight ∧ inFlight.dir = .write ∧ s.clockOK = true ∧
    ({ s with clk := ⟨false, 6, 4, 0⟩ } : State).clockOK = false := by decide

theorem witness_RespondingBusEndsThePoll :
    let s : State := { busy with cfg := { vectorParams with busResponds := true } }
    s.Clean ∧ s.pc = .xfPoll ∧ s.pending = some inFlight ∧ s.clockOK = true ∧ s.cfg.busResponds = true ∧
    s.schedule = [] := by decide

/-! The invariants hold in a state in the middle of a transfer, whose next steps the whole-machine rules speak of. -/

theorem busy_inv : busy.Inv :=
  ⟨by decide, fun _ => rfl, fun x h => by
    have hx : some inFlight = some x := h
    cases hx
    decide, by decide⟩

theorem witness_EveryStepKeepsTheInvariant : busy.Inv ∧ ∃ t, step busy = .next t := ⟨busy_inv, _, rfl⟩

/-- XF_TRIGGER over an old transfer: the one fault left. -/
def retrigger : State := { busy with pc := .xfTrigger }

theorem retrigger_inv : retrigger.Inv := ⟨by decide, fun _ => rfl, busy_inv.width, by decide⟩

theorem witness_CommandSequencesDoNotFaultOnTheirOwnAccesses :
    retrigger.Inv ∧ retrigger.clockFits = true ∧ retrigger.quiet ∧ retrigger.fault = none ∧
    ∃ t f, step retrigger = .next t ∧ t.fault = some f :=
  ⟨retrigger_inv, by decide, (by intro hp; cases hp), rfl, _, _, rfl, rfl⟩

theorem witness_TheClockRunsBeforeTimingAndTransfers :
    busy.Inv ∧ busy.clockReady = true ∧ busy.quiet ∧ busy.pc.isTransfer = true ∧ (∃ t, step busy = .next t) :=
  ⟨busy_inv, by decide, (by intro hp; cases hp), rfl, ⟨_, rfl⟩⟩

theorem witness_UnboundedTransfersLeaveNothingInFlight :
    busy.Inv ∧ busy.transferFits = true ∧ busy.cfg.pollLimit = none ∧ busy.quiet ∧ (∃ t, step busy = .next t) ∧
    ({ busy with pc := .respond, dcs := ⟨false, false, false⟩, pending := none } : State).transferFits = true :=
  ⟨busy_inv, by decide, by decide, (by intro hp; cases hp), ⟨_, rfl⟩, by decide⟩

theorem witness_HistoryOnlyGrowsByOneEvent :
    after (step { ready with pc := .xfAddr, x := writeLatches }) (·.history) = some [.write 0x10E 0x109] := by decide

/-- After a fault the engine still completes (R142). -/
theorem witness_MarksAreStickyAndAFaultStopsTheController :
    let s : State := { busy with fault := some ⟨.overlap, .xfPoll, none⟩, refused := true, schedule := [.engine] }
    s.refused = true ∧ s.fault = some ⟨.overlap, .xfPoll, none⟩ ∧
    after (step s) (·.history) = some [.device 1 9 .write 0x3C true] := by decide

theorem witness_FaultsArePrecise :
    retrigger.fault = none ∧
    after (step retrigger) (·.fault) =
      some (some ⟨.startWhilePending, .xfTrigger, some (0x10D, some 0x0000000B)⟩) ∧
    after (step { retrigger with schedule := [.host], port := [1] }) (·.fault) =
      some (some ⟨.overlap, .xfTrigger, none⟩) ∧
    ({ retrigger with schedule := [.host], port := [1] } : State).portAfterTurn = [] ∧
    ({ retrigger with schedule := [.host], port := [9, 1] } : State).portAfterTurn = [1] := by decide

/-- Both ways the handle changes. -/
theorem witness_OnlyActivationChangesTheHandle :
    after (step activating) (·.hstate) = some .active ∧ activating.hstate ≠ .active ∧
    after (step { ready with pc := .deactRelease }) (·.hstate) = some .unmapped := by decide

/-- Both clauses: the engine sets DONE, XF_CLEAR_DONE clears it. -/
theorem witness_DoneIsSetByTheEngineAndClearedByWrites :
    busy.dcs.done = false ∧ after (step { busy with schedule := [.engine] }) (·.dcs.done) = some true ∧
    after (step { ready with pc := .xfClearDone, dcs := ⟨true, true, true⟩ }) (·.dcs.done) = some false := by decide

/-- Both clauses: START, and a completion. -/
theorem witness_PendingComesFromStartAndGoesByCompletion :
    ready.pending = none ∧
    after (step { ready with schedule := [.bus ⟨0x10D, 0x3⟩] }) (·.pending) =
      some (some ⟨0, 0, .read, 0, 0x04040108⟩) ∧
    after (step { busy with schedule := [.engine] }) (·.pending) = some none := by decide

theorem witness_SlotsChangeOnlyByTheirOwnWrites :
    after (step { ready with schedule := [.bus ⟨0x10B, 5⟩] }) (fun t => (t.slot[7], t.history)) =
      some (5, [.write 0x10B 5]) ∧ ready.slot[7] ≠ 5 := by decide

/-- Both registers: CTL stops the generator, and DIV changes while it is stopped. -/
theorem witness_ClockChangesOnlyByPasswordWrites :
    after (step { ready with pc := .clkDisable }) (·.clk) = some ⟨false, 0, 4, 0⟩ ∧ ready.clk = ⟨true, 6, 4, 0⟩ ∧
    after (step { ready with pc := .clkDivide, clk := ⟨false, 0, 10, 7⟩ }) (·.clk) = some ⟨false, 0, 4, 0⟩ := by decide

theorem witness_CsAndParametersNeverChange : ∃ t, step busy = .next t := ⟨_, rfl⟩

/-- A command that is no transfer, with and without an old transfer in flight. -/
theorem witness_EngineDoesNotDisturbOtherCommands :
    let s : State := { ready with pc := .timRead, x := { zeroLatches with opc := 0x06 } }
    let t : State := { s with pending := some inFlight, dcs := ⟨true, true, true⟩, dd := 5, draws := 9 }
    s.Inv ∧ s.pc.isTransfer = false ∧ s.withoutEngine = t.withoutEngine :=
  ⟨⟨by decide, fun _ => rfl, (fun x h => by cases h), by decide⟩, by decide, by decide⟩

/-- Every kind of step beside a command: the controller's, the engine's, both requests turned away, and a host that has no
whole command. -/
theorem witness_OnlyTheEngineRunsBesideTheController :
    busy.pc ≠ .idle ∧ busy.fault = none ∧ (∃ t, step busy = .next t) ∧
    after (step { busy with schedule := [.engine] }) (·.pc) = some .xfPoll ∧
    after (step meddling) (·.fault) = some (some ⟨.overlap, .xfPoll, none⟩) ∧
    after (step { busy with schedule := [.host], port := [1, 2] }) (fun t => (t.fault, t.port)) =
      some (some ⟨.overlap, .xfPoll, none⟩, [2]) ∧
    after (step { busy with schedule := [.host], port := [7, 2] }) (fun t => (t.fault, t.port)) =
      some (none, [7, 2]) :=
  ⟨by decide, by decide, ⟨_, rfl⟩, by decide, by decide, by decide, by decide⟩

end Sys2Proof.Tests
end

section
/-! PROOFS. 00_scope.md: the two levels of R11 agree (O24), and the history is only appended to (O49). -/

/-! ### A bus row and its encoding (R59, R60) -/

namespace Sys2Proof.Machine

open Laws.EncodedForm in
/-- The family `EncodedForm` as one statement about every row of the table. -/
theorem encoded_form : ∀ i : Instr, Statement i
  | .activate => activate
  | .deactivate => deactivate
  | .configureClock => configureClock
  | .activatePins => activatePins
  | .deactivatePins => deactivatePins
  | .setTiming d ch setup strobe hold pace => setTiming d ch setup strobe hold pace
  | .writeByte ch addr data => writeByte ch addr data
  | .readByte ch addr => readByte ch addr
  | .rdCs => rdCs
  | .wrCs v => wrCs v
  | .rdDsr0 => rdDsr0
  | .wrDsr0 v => wrDsr0 v
  | .rdDsw0 => rdDsw0
  | .wrDsw0 v => wrDsw0 v
  | .rdDsr1 => rdDsr1
  | .wrDsr1 v => wrDsr1 v
  | .rdDsw1 => rdDsw1
  | .wrDsw1 v => wrDsw1 v
  | .rdDsr2 => rdDsr2
  | .wrDsr2 v => wrDsr2 v
  | .rdDsw2 => rdDsw2
  | .wrDsw2 v => wrDsw2 v
  | .rdDsr3 => rdDsr3
  | .wrDsr3 v => wrDsr3 v
  | .rdDsw3 => rdDsw3
  | .wrDsw3 v => wrDsw3 v
  | .rdDcs => rdDcs
  | .wrDcs v => wrDcs v
  | .rdDa => rdDa
  | .wrDa v => wrDa v
  | .rdDd => rdDd
  | .wrDd v => wrDd v
  | .rdCmCtl => rdCmCtl
  | .wrCmCtl v => wrCmCtl v
  | .rdCmDiv => rdCmDiv
  | .wrCmDiv v => wrCmDiv v
  | .fselGpio p v => fselGpio p v

/-- What is encoded as a bus request is a row of the BUS format. -/
theorem not_command_of_encode_bus {i : Instr} {r : BusReq} (he : encode i = .bus r) : i.isCommand = false := by
  refine Bool.eq_false_iff.mpr fun hc => ?_
  obtain ⟨h, ops, hcmd, -, -⟩ := (encoded_form i).1 hc
  cases hcmd.symm.trans he

theorem request_of_encode_bus {i : Instr} {r : BusReq} (he : encode i = .bus r) : requestOf i = r := by
  simp only [requestOf, he]

/-- R59: the request of a well-formed row decodes to the row. -/
theorem decode_bus_of_encode {i : Instr} {r : BusReq} (hw : i.wellFormed = true) (he : encode i = .bus r) :
    decodeBus r = .ok i := by
  obtain ⟨r', he', hd⟩ := (encoded_form i).2 (not_command_of_encode_bus he) hw
  cases he.symm.trans he'
  exact hd

/-- What a phase's request does is what the row it decodes to does. -/
theorem bus_effect_of_decode {i : Instr} {r : BusReq} (hd : decodeBus r = .ok i) (s : State) :
    busEffect r s = rowEffect i s := by
  simp only [busEffect, hd]

/-- Settles O24: both levels commit the effect of the same row, since a well-formed row's request decodes to it. -/
theorem busRowsAreThePhasesTransactions : Obligations.BusRowsAreThePhasesTransactions := by
  intro i r s hw he hf
  rw [exec_bus_row i (not_command_of_encode_bus he), request_of_encode_bus he,
    bus_effect_of_decode (decode_bus_of_encode hw he)]
  exact while_running_of_none _ hf

/-! ### What a step adds to the history (R10, R34) -/

/-- The history of `t` is that of `s`, or it is that of `s` and one event. -/
def AddsAtMostOne (s t : State) : Prop := t.history = s.history ∨ ∃ e, t.history = s.history ++ [e]

/-- A transaction whose rule leaves the history alone adds exactly its own record. -/
theorem commit_appends {r : BusReq} {s : State} {e : Effect}
    (h : ∀ t, e.state? = some t → t.history = s.history) : ∃ ev, (commit r s e).history = s.history ++ [ev] := by
  obtain ⟨ev, he⟩ := commit_history r s e
  cases e with
  | done v t => rw [← h t rfl]; exact ⟨ev, he⟩
  | refused x t => rw [← h t rfl]; exact ⟨ev, he⟩
  | fault f => exact ⟨ev, he⟩

theorem commit_row_appends (r : BusReq) (i : Instr) (s : State) :
    ∃ ev, (commit r s (rowEffect i s)).history = s.history ++ [ev] :=
  commit_appends fun t ht => (row_effect_same i s t ht).history

theorem commit_bus_appends (r : BusReq) (s : State) :
    ∃ ev, (commit r s (busEffect r s)).history = s.history ++ [ev] :=
  commit_appends fun t ht => (bus_effect_same r s t ht).history

/-! #### Faults and admission -/

/-- A fault adds its transaction, when it has one. -/
theorem take_fault_adds (s : State) (f : Fault) (b : Option BusReq) : AddsAtMostOne s (s.takeFault f b) := by
  cases b with
  | none => exact .inl (by simp)
  | some r => exact .inr ⟨_, take_fault_history s f (some r)⟩

/-- R135: no accept step is a transaction. -/
theorem accept_of_history (i : Instr) (s : State) : (acceptOf i s).history = s.history := by
  cases i with
  | activate => simp only [acceptOf, acceptActivate]; split <;> rfl
  | setTiming => simp only [acceptOf, acceptSetTiming]; split <;> rfl
  | writeByte | readByte => simp only [acceptOf, acceptTransfer]; split <;> rfl
  | _ => rfl

/-- R41, R135: a command's admission adds nothing, a bus row its one record. -/
theorem exec_adds {i : Instr} {s t : State} (h : exec i s = .next t) : AddsAtMostOne s t := by
  cases hc : i.isCommand with
  | true =>
    obtain ⟨-, ⟨-, rfl⟩ | ⟨-, -, -, rfl⟩ | ⟨-, -, -, rfl⟩ | ⟨-, -, rfl⟩⟩ := exec_command_next hc h
    · exact take_fault_adds s _ _
    · exact take_fault_adds s _ _
    · exact take_fault_adds s _ _
    · exact .inl (accept_of_history i _)
  | false =>
    obtain ⟨-, rfl⟩ := exec_bus_next hc h
    exact .inr (commit_row_appends _ i s)

/-- An illegal header is no transaction, refused or faulted. -/
theorem admit_illegal_adds (s : State) : AddsAtMostOne s (admitIllegal s) := by
  obtain ⟨-, e⟩ | ⟨-, e⟩ := admit_illegal_cases s
  · rw [e]; exact take_fault_adds s _ _
  · exact .inl (by rw [e]; rfl)

/-! #### The controller's phases (R41) -/

/-- A phase's write is one event when the rest of the phase adds none. -/
theorem issue_write_adds (r : BusReq) {after : State → State} (s : State)
    (ha : ∀ t, (after t).history = t.history) : AddsAtMostOne s (issueWrite r after s) := by
  obtain ⟨ev, he⟩ := commit_bus_appends r s
  refine .inr ⟨ev, ?_⟩
  unfold issueWrite
  split
  · exact he
  · rw [ha, he]

/-- A phase's read is one event when the rest of the phase adds none. -/
theorem issue_read_adds (r : BusReq) {after : Word → State → State} (s : State)
    (ha : ∀ v t, (after v t).history = t.history) : AddsAtMostOne s (issueRead r after s) := by
  obtain ⟨ev, he⟩ := commit_bus_appends r s
  refine .inr ⟨ev, ?_⟩
  unfold issueRead
  generalize busEffect r s = e at he ⊢
  cases e with
  | done v t => exact (ha v _).trans he
  | refused x t => exact he
  | fault f => exact he

theorem clk_exit_history (s : State) : (clkExit s).history = s.history := by
  unfold clkExit; split <;> rfl

theorem pin_exit_history (s : State) : (pinExit s).history = s.history := by
  unfold pinExit; split_ifs <;> rfl

theorem setup_exit_history (s : State) : (setupExit s).history = s.history := by
  unfold setupExit; split <;> rfl

theorem poll_next_history (d : Bool) (s : State) : (pollNext d s).history = s.history := by
  obtain ⟨-, e⟩ | ⟨-, -, e⟩ | ⟨-, -, e⟩ := poll_next_cases d s <;> rw [e] <;> rfl

/-- R15, R41: a phase issues at most one transaction. -/
theorem phase_step_adds (s : State) : AddsAtMostOne s (phaseStep s) := by
  unfold phaseStep
  cases s.pc with
  | idle | deactRelease | respond => exact .inl rfl
  | clkEnable => exact issue_write_adds _ s clk_exit_history
  | pinSet => exact issue_write_adds _ s pin_exit_history
  | actSlotWrite => exact issue_write_adds _ s setup_exit_history
  | clkDisable | clkDivide | timWrite | xfClearStale | xfAddr | xfData | xfTrigger | xfClearDone | actSlotInit =>
    exact issue_write_adds _ s fun _ => rfl
  | timRead | xfCapture | actSlotRead => exact issue_read_adds _ s fun _ _ => rfl
  | xfCheck => exact issue_read_adds _ s fun v t => by split <;> rfl
  | xfPoll => exact issue_read_adds _ s fun v t => poll_next_history _ _

/-! #### The engine (R42) -/

/-- R97: a completion is one device event. -/
theorem complete_xfer_appends (s : State) (x : Xfer) : ∃ e, (completeXfer s x).history = s.history ++ [e] := by
  unfold completeXfer
  cases x.dir with
  | read => exact ⟨_, rfl⟩
  | write => exact ⟨_, rfl⟩

theorem engine_step_adds (s : State) : AddsAtMostOne s (engineStep s) := by
  obtain ⟨x, -, -, e⟩ | ⟨-, e⟩ := engine_step_cases s
  · rw [e]; exact .inr (complete_xfer_appends s x)
  · exact .inl (by rw [e])

/-- Settles O49, by the kinds of step: whoever moves adds at most one event, and using up the turn or the words of the
command port adds none. -/
theorem historyOnlyGrowsByOneEvent : Obligations.HistoryOnlyGrowsByOneEvent := by
  intro s t h
  cases step_kind h with
  | engine _ ht => exact ht ▸ engine_step_adds s.afterTurn
  | phase _ _ ht => exact ht ▸ phase_step_adds s.afterTurn
  | waits _ _ ht => exact .inl (by rw [ht]; rfl)
  | illegal _ _ _ ht => exact ht ▸ admit_illegal_adds (s.afterTurn.setPort s.port.tail)
  | command i rest _ _ ht => exact exec_adds (s := s.afterTurn.setPort rest) ht
  | bus r i _ _ _ ht => exact exec_adds (s := s.afterTurn) ht
  | unlisted r e _ _ _ _ ht => exact ht ▸ take_fault_adds s.afterTurn .busUnlisted (some r)
  | secondIssuer r _ _ _ ht => exact ht ▸ take_fault_adds s.afterTurn .overlap none

end Sys2Proof.Machine
end

section
/-! PROOFS. 10_state.md: what a step can do to each piece of state. The block (registers, marks, parameters, history) is
reached by at most one move a step; the controller is reached by a phase or an accept step alone. -/

namespace Sys2Proof.Machine

/-! ### A descriptor and the row it decodes to (R59) -/

/-- A descriptor is its three fields. -/
theorem desc_of_fields {d : BitVec 9} {tgt idx : Nat} {w : Bool} (ht : (descTgt d).toNat = tgt)
    (hw : descWrites d = w) (hi : (descIdx d).toNat = idx) : BitVec.ofNat 9 (w.toNat * 256 + tgt * 32 + idx) = d := by
  subst ht hw hi
  revert d
  decide

/-- The encoding of the row that a request decodes to has the request's descriptor, and its data word if it writes. -/
theorem encode_of_decode_bus {r : BusReq} {i : Instr} (h : decodeBus r = .ok i) :
    ∃ own, encode i = .bus own ∧ own.desc = r.desc ∧ (descWrites r.desc = true → own.data = r.data) := by
  unfold decodeBus at h
  split at h
  case h_29 ht hw =>
    split at h <;> cases h
    have hp : ∀ p : BitVec 5, 0x140 ||| p.setWidth 9 = BitVec.ofNat 9 (true.toNat * 256 + 2 * 32 + p.toNat) := by
      decide
    exact ⟨_, rfl, (hp _).trans (desc_of_fields ht hw rfl), fun _ => rfl⟩
  case h_30 => cases h
  all_goals
    next ht hw hi =>
      cases h
      exact ⟨_, rfl, desc_of_fields ht hw hi, by simp [hw]⟩

/-- The record of a transaction is the record of the row its request decodes to. -/
theorem commit_request_of {r : BusReq} {i : Instr} (h : decodeBus r = .ok i) (s : State) (e : Effect) :
    commit (requestOf i) s e = commit r s e := by
  obtain ⟨own, he, hd, hv⟩ := encode_of_decode_bus h
  have hdata : busData own = busData r := by
    simp only [busData, hd]
    split
    · next hw => rw [hv hw]
    · rfl
  have hevent (v : Word) : busEvent own v = busEvent r v := by
    simp only [busEvent, hd]
    split
    · next hw => rw [hv hw]
    · rfl
  rw [request_of_encode_bus he]
  cases e with
  | done v t => simp only [commit, hevent]
  | refused x t => simp only [commit, hd, hdata]
  | fault f => simp only [commit, State.takeFault, hd, hdata]

/-! ### What one step does outside the controller -/

/-- Two states agree on everything outside the controller and its inputs: the marks, the registers, the transfer in
flight, the history, the parameters (the counterpart of `SameController`). -/
structure SameBlock (s t : State) : Prop where
  cfg : t.cfg = s.cfg
  fault : t.fault = s.fault
  refused : t.refused = s.refused
  refusal : t.refusal = s.refusal
  cs : t.cs = s.cs
  slot : t.slot = s.slot
  dcs : t.dcs = s.dcs
  da : t.da = s.da
  dd : t.dd = s.dd
  pending : t.pending = s.pending
  clk : t.clk = s.clk
  fsel : t.fsel = s.fsel
  history : t.history = s.history

theorem same_block_refl (s : State) : SameBlock s s := by constructor <;> rfl

/-- The moves that reach outside the controller: a fault, a refusal, a transaction, a completion. -/
inductive BlockMove (s : State) : State → Prop where
  | rest : BlockMove s s
  | fault (f : Fault) (b : Option BusReq) : BlockMove s (s.takeFault f b)
  | refusal (x : Refusal) : BlockMove s (s.markRefused x)
  | transaction (r : BusReq) : BlockMove s (commit r s (busEffect r s))
  | completion (x : Xfer) (hp : s.pending = some x) (hc : s.clockOK = true) : BlockMove s (completeXfer s x)

/-- One move of the block, and around it what the controller does to itself. -/
def BlockStep (s t : State) : Prop := ∃ s' t', SameBlock s s' ∧ BlockMove s' t' ∧ SameBlock t' t

theorem block_step_of_move {s s' t : State} (h : SameBlock s s') (m : BlockMove s' t) : BlockStep s t :=
  ⟨s', t, h, m, same_block_refl t⟩

theorem block_step_of_same {s t : State} (h : SameBlock s t) : BlockStep s t := block_step_of_move h .rest

/-- What a transaction comes to: its fault, or a state its rule leaves with the record, and the mark of a refusal. -/
theorem commit_bus_cases (r : BusReq) (s : State) :
    (∃ f, commit r s (busEffect r s) = s.takeFault f (some r)) ∨
    (∃ t e, SameController s t ∧ commit r s (busEffect r s) = t.log e) ∨
    (∃ t e x, SameController s t ∧ commit r s (busEffect r s) = (t.log e).markRefused x) := by
  have hsame := bus_effect_same r s
  generalize busEffect r s = e at hsame ⊢
  cases e with
  | done v t => exact .inr (.inl ⟨t, _, hsame t rfl, rfl⟩)
  | refused x t => exact .inr (.inr ⟨t, _, x, hsame t rfl, rfl⟩)
  | fault f => exact .inl ⟨f, rfl⟩

/-! #### What a phase does with the transaction done (R15) -/

/-- The controller goes on by itself: the block and the handle stay, and a response is given only on the way to IDLE. -/
structure GoesOn (s t : State) : Prop where
  block : SameBlock s t
  hstate : t.hstate = s.hstate
  response : t.pc ≠ .idle → t.response = s.response

theorem goes_on_set_pc (s : State) (p : Phase) : GoesOn s (s.setPc p) := ⟨by constructor <;> rfl, rfl, fun _ => rfl⟩

theorem goes_on_set_x (s : State) (x : Latches) : GoesOn s (s.setX x) := ⟨by constructor <;> rfl, rfl, fun _ => rfl⟩

theorem goes_on_set_x_set_pc (s : State) (x : Latches) (p : Phase) : GoesOn s ((s.setX x).setPc p) :=
  ⟨by constructor <;> rfl, rfl, fun _ => rfl⟩

theorem goes_on_respond (s : State) (st : Status) (v : Word) : GoesOn s (s.respond st v) :=
  ⟨by constructor <;> rfl, rfl, fun h => absurd rfl h⟩

theorem clk_exit_goes_on (s : State) : GoesOn s (clkExit s) := by
  unfold clkExit
  split
  · exact goes_on_set_x_set_pc _ _ _
  · exact goes_on_set_pc _ _

theorem pin_exit_goes_on (s : State) : GoesOn s (pinExit s) := by
  unfold pinExit
  split_ifs
  · exact goes_on_set_x _ _
  · exact goes_on_set_x_set_pc _ _ _
  · exact goes_on_set_pc _ _
  · exact goes_on_set_pc _ _

theorem setup_exit_goes_on (s : State) : GoesOn s (setupExit s) := by
  unfold setupExit
  split
  · exact goes_on_set_x_set_pc _ _ _
  · exact goes_on_set_pc _ _

theorem check_exit_goes_on (r : Word) (s : State) :
    GoesOn s (if dcsDone r then (s.setX { s.x with stale := true }).setPc .xfClearStale else s.setPc .xfAddr) := by
  split
  · exact goes_on_set_x_set_pc _ _ _
  · exact goes_on_set_pc _ _

theorem poll_exit_goes_on (d : Bool) (s : State) (x : Latches) : GoesOn s (pollNext d (s.setX x)) := by
  obtain ⟨-, e⟩ | ⟨-, -, e⟩ | ⟨-, -, e⟩ := poll_next_cases d (s.setX x)
  · exact e ▸ goes_on_set_x_set_pc _ _ _
  · exact e ▸ ⟨by constructor <;> rfl, rfl, fun h => absurd rfl h⟩
  · exact e ▸ goes_on_set_x_set_pc _ _ _

/-- A phase but DEACT_RELEASE is one move of the block, after which the controller goes on. -/
def PhaseMove (s t : State) : Prop := ∃ u, BlockMove s u ∧ GoesOn u t

theorem phase_move_of_goes_on {s t : State} (h : GoesOn s t) : PhaseMove s t := ⟨s, .rest, h⟩

theorem issue_write_move (r : BusReq) {after : State → State} (s : State) (ha : ∀ u, GoesOn u (after u)) :
    PhaseMove s (issueWrite r after s) := by
  unfold issueWrite
  split
  · exact ⟨_, .transaction r, same_block_refl _, rfl, fun _ => rfl⟩
  · exact ⟨_, .transaction r, ha _⟩

theorem issue_read_move (r : BusReq) {after : Word → State → State} (s : State) (ha : ∀ v u, GoesOn u (after v u)) :
    PhaseMove s (issueRead r after s) := by
  have hm := BlockMove.transaction (s := s) r
  unfold issueRead
  generalize busEffect r s = e at hm ⊢
  cases e with
  | done v t => exact ⟨_, hm, ha v _⟩
  | refused x t => exact ⟨_, hm, same_block_refl _, rfl, fun _ => rfl⟩
  | fault f => exact ⟨_, hm, same_block_refl _, rfl, fun _ => rfl⟩

theorem phase_step_move (s : State) (h : s.pc ≠ .deactRelease) : PhaseMove s (phaseStep s) := by
  unfold phaseStep
  generalize s.pc = p at h
  cases p with
  | idle => exact phase_move_of_goes_on ⟨same_block_refl s, rfl, fun _ => rfl⟩
  | respond => exact phase_move_of_goes_on (goes_on_respond s _ _)
  | deactRelease => exact absurd rfl h
  | clkEnable => exact issue_write_move _ s clk_exit_goes_on
  | pinSet => exact issue_write_move _ s pin_exit_goes_on
  | actSlotWrite => exact issue_write_move _ s setup_exit_goes_on
  | clkDisable | clkDivide | timWrite | xfClearStale | xfAddr | xfData | xfTrigger | xfClearDone | actSlotInit =>
    exact issue_write_move _ s fun u => goes_on_set_pc u _
  | timRead | xfCapture | actSlotRead => exact issue_read_move _ s fun _ u => goes_on_set_x_set_pc u _ _
  | xfCheck => exact issue_read_move _ s check_exit_goes_on
  | xfPoll => exact issue_read_move _ s fun _ u => poll_exit_goes_on _ u _

/-- DEACT_RELEASE issues nothing (R134). -/
theorem phase_step_deact_release {s : State} (h : s.pc = .deactRelease) :
    phaseStep s = (s.setHstate .unmapped).setPc .respond := by
  simp only [phaseStep, h, phaseDeactRelease]

/-! #### The other movers -/

theorem accept_of_block (i : Instr) (s : State) : SameBlock s (acceptOf i s) := by
  cases i with
  | activate => simp only [acceptOf, acceptActivate]; split <;> constructor <;> rfl
  | setTiming => simp only [acceptOf, acceptSetTiming]; split <;> constructor <;> rfl
  | writeByte | readByte => simp only [acceptOf, acceptTransfer]; split <;> constructor <;> rfl
  | _ => constructor <;> rfl

theorem engine_step_block_move (s : State) : BlockMove s (engineStep s) := by
  obtain ⟨x, hp, hc, e⟩ | ⟨-, e⟩ := engine_step_cases s
  · exact e ▸ .completion x hp hc
  · exact e.symm ▸ .rest

/-- A harness's transaction is that of the row it decodes to (R11). -/
theorem exec_decoded_bus {r : BusReq} {i : Instr} {s t : State} (hd : decodeBus r = .ok i) (h : exec i s = .next t) :
    s.fault = none ∧ t = commit r s (busEffect r s) := by
  obtain ⟨hf, rfl⟩ := exec_bus_next (decode_bus_is_bus hd) h
  exact ⟨hf, by rw [commit_request_of hd, bus_effect_of_decode hd]⟩

/-- A step is at most one move of the block (R41, R42). -/
theorem step_block {s t : State} (h : step s = .next t) : BlockStep s t := by
  have hturn : SameBlock s s.afterTurn := by constructor <;> rfl
  have hport (ws : List Word) : SameBlock s (s.afterTurn.setPort ws) := by constructor <;> rfl
  cases step_kind h with
  | engine _ ht => exact ht ▸ block_step_of_move hturn (engine_step_block_move _)
  | phase _ _ ht =>
    subst ht
    by_cases hr : s.afterTurn.pc = .deactRelease
    · rw [phase_step_deact_release hr]
      exact block_step_of_same (by constructor <;> rfl)
    · obtain ⟨u, hm, ho⟩ := phase_step_move s.afterTurn hr
      exact ⟨_, u, hturn, hm, ho.block⟩
  | waits _ _ ht => exact ht ▸ block_step_of_same hturn
  | illegal _ _ _ ht =>
    subst ht
    obtain ⟨-, e⟩ | ⟨-, e⟩ := admit_illegal_cases (s.afterTurn.setPort s.port.tail)
    · exact e ▸ block_step_of_move (hport _) (.fault _ _)
    · exact e ▸ block_step_of_move (hport _) (.refusal _)
  | command i rest _ hd ht =>
    obtain ⟨-, ⟨-, rfl⟩ | ⟨-, -, -, rfl⟩ | ⟨-, -, -, rfl⟩ | ⟨-, -, rfl⟩⟩ :=
      exec_command_next (decode_command_is_command hd) ht
    · exact block_step_of_move (hport rest) (.fault _ _)
    · exact block_step_of_move (hport rest) (.fault _ _)
    · exact block_step_of_move (hport rest) (.fault _ _)
    · exact ⟨(s.afterTurn.setPort rest).setResponse none, _, by constructor <;> rfl, .rest, accept_of_block i _⟩
  | bus r i _ _ hd ht =>
    obtain ⟨-, rfl⟩ := exec_decoded_bus hd ht
    exact block_step_of_move hturn (.transaction r)
  | unlisted r e _ _ _ _ ht => exact ht ▸ block_step_of_move hturn (.fault _ _)
  | secondIssuer r _ _ _ ht => exact ht ▸ block_step_of_move hturn (.fault _ _)

/-- R97: a completion sets DONE, ends the transfer and adds a device event; of the rest only DD and the count of draws
can change. -/
theorem complete_xfer_precise (s : State) (x : Xfer) :
    ∃ dd n es, completeXfer s x =
        { s with dcs := { s.dcs with done := true }, pending := none, dd := dd, draws := n, history := es } ∧
      ∃ c a d b w, es = s.history ++ [.device c a d b w] := by
  simp only [completeXfer, completeRead, completeWrite, State.setDd, State.nextDraw, State.log, State.setDcs,
    State.setPending]
  cases x.dir with
  | read => exact ⟨_, _, _, rfl, _, _, _, _, _, rfl⟩
  | write => exact ⟨_, _, _, rfl, _, _, _, _, _, rfl⟩

/-! ### What no step undoes: the parameters, CS and the marks (R16, R19, R39) -/

/-- The parameters and CS stay, and the two marks of a refusal stay or are set together. -/
structure KeepsMarks (s t : State) : Prop where
  cfg : t.cfg = s.cfg
  cs : t.cs = s.cs
  marks : (t.refused = s.refused ∧ t.refusal = s.refusal) ∨ (t.refused = true ∧ t.refusal.isSome = true)

theorem block_move_keeps_marks {s t : State} (h : BlockMove s t) : KeepsMarks s t := by
  cases h with
  | rest => exact ⟨rfl, rfl, .inl ⟨rfl, rfl⟩⟩
  | fault f b => exact ⟨by simp, by simp, .inl (by simp)⟩
  | refusal x => exact ⟨rfl, rfl, .inr ⟨rfl, rfl⟩⟩
  | transaction r =>
    obtain ⟨f, e⟩ | ⟨t, ev, hs, e⟩ | ⟨t, ev, x, hs, e⟩ := commit_bus_cases r s <;> rw [e]
    · exact ⟨by simp, by simp, .inl (by simp)⟩
    · exact ⟨hs.cfg, hs.cs, .inl ⟨hs.refused, hs.refusal⟩⟩
    · exact ⟨hs.cfg, hs.cs, .inr ⟨rfl, rfl⟩⟩
  | completion x _ _ =>
    obtain ⟨dd, n, es, e, -⟩ := complete_xfer_precise s x
    rw [e]
    exact ⟨rfl, rfl, .inl ⟨rfl, rfl⟩⟩

theorem step_keeps_marks {s t : State} (h : step s = .next t) : KeepsMarks s t := by
  obtain ⟨s', t', hs, hm, ht⟩ := step_block h
  obtain ⟨hcfg, hcs, hmarks⟩ := block_move_keeps_marks hm
  rw [hs.cfg, ← ht.cfg] at hcfg
  rw [hs.cs, ← ht.cs] at hcs
  rw [hs.refused, hs.refusal, ← ht.refused, ← ht.refusal] at hmarks
  exact ⟨hcfg, hcs, hmarks⟩

/-- Settles O57: a move of the block keeps both, and the controller reaches neither. -/
theorem csAndParametersNeverChange : Obligations.CsAndParametersNeverChange :=
  fun _ _ h => ⟨(step_keeps_marks h).cs, (step_keeps_marks h).cfg⟩

/-! ### What a step can do to the registers (R30, R31, R158) -/

/-- The registers that transactions and completions change, without DA, DD and the pins. -/
structure Registers where
  slot : Vector Word 8
  dcs : Dcs
  pending : Option Xfer
  clk : ClockGen

def State.registers (s : State) : Registers := ⟨s.slot, s.dcs, s.pending, s.clk⟩

theorem same_block_registers {s t : State} (h : SameBlock s t) : t.registers = s.registers := by
  simp only [State.registers, h.slot, h.dcs, h.pending, h.clk]

theorem same_block_started {s t : State} (h : SameBlock s t) (d : Dir) : startedXfer t d = startedXfer s d := by
  simp only [startedXfer, h.da, h.dd, h.slot]

/-- The transfer that a DCS write starts (R84): in the direction the word stores. -/
def startedBy (v : Word) (s : State) : Xfer := startedXfer s (dcsDir (dcsStore v s.dcs))

/-- Every way a step can change the registers, with the record it leaves. -/
inductive RegisterChange (s t : State) : Prop where
  | kept (h : t.registers = s.registers)
  | slot (k : Fin 8) (v : Word) (h : t.registers = { s.registers with slot := s.slot.set k v })
      (hh : t.history = s.history ++ [.write (0x104 + BitVec.ofNat 9 k) v])
  | dcs (v : Word) (h : t.registers = { s.registers with dcs := dcsStore v s.dcs })
      (hh : t.history = s.history ++ [.write 0x10D v])
  | start (v : Word) (hp : s.pending = none) (hs : dcsStarts v = true) (he : v.getLsbD 0 = true)
      (hw : slotWidth (startedBy v s).slot = width8Code)
      (h : t.registers = { s.registers with dcs := dcsStore v s.dcs, pending := some (startedBy v s) })
      (hh : t.history = s.history ++ [.write 0x10D v])
  | width (v : Word) (h : t.registers = { s.registers with dcs := dcsStore v s.dcs })
      (hh : t.history = s.history ++ [.refused 0x10D (some v) .width])
  | ctl (v : Word) (hv : cmPassword v = cmPasswd)
      (h : t.registers =
        { s.registers with clk := { s.clk with src := v.extractLsb' 0 4, enab := v.getLsbD 4 } })
      (hh : t.history = s.history ++ [.write 0x120 v])
  | div (v : Word) (hv : cmPassword v = cmPasswd) (he : s.clk.enab = false)
      (h : t.registers =
        { s.registers with clk := { s.clk with divi := v.extractLsb' 12 12, divf := v.extractLsb' 0 12 } })
      (hh : t.history = s.history ++ [.write 0x121 v])
  | completed (x : Xfer) (hp : s.pending = some x) (hc : s.clockOK = true)
      (h : t.registers = { s.registers with dcs := { s.dcs with done := true }, pending := none })
      (hh : ∃ c a d b w, t.history = s.history ++ [.device c a d b w])

theorem commit_slot_write (k : Fin 8) (v : Word) (s : State) :
    RegisterChange s (commit (smiWrite (BitVec.ofNat 5 (4 + k.val)) v) s (slotWrite k v s)) :=
  .slot k v rfl (by simp only [slotWrite, commit, slot_write_event, State.log_history, State.setSlot_history])

/-- The record of a DCS write that is refused (R86). -/
theorem dcs_write_data (v : Word) : busData (smiWrite idxDcs v) = some v := by
  have h : descWrites (mkDesc true 0 idxDcs) = true := by decide
  simp only [busData, smiWrite, h, if_true]

theorem commit_dcs_write (v : Word) (s : State) :
    RegisterChange s (commit (smiWrite idxDcs v) s (dcsWrite v s)) := by
  obtain ⟨-, -, e⟩ | ⟨-, -, e⟩ | ⟨hs, hp, he, hw, e⟩ | ⟨-, -, -, -, e⟩ := dcs_write_cases v s <;> rw [e]
  · exact .kept rfl
  · exact .dcs v rfl (by rw [commit, dcs_write_event]; rfl)
  · exact .start v hp hs he hw rfl (by rw [commit, dcs_write_event]; rfl)
  · exact .width v rfl (by rw [commit, dcs_write_data]; rfl)

theorem commit_ctl_write (v : Word) (s : State) : RegisterChange s (commit (ctlWrite v) s (cmCtlWrite v s)) := by
  unfold cmCtlWrite
  split_ifs with hv hr
  · exact .kept rfl
  · exact .kept rfl
  · exact .ctl v (not_not.mp hv) rfl (by rw [commit, ctl_write_event]; rfl)

theorem commit_div_write (v : Word) (s : State) : RegisterChange s (commit (divWrite v) s (cmDivWrite v s)) := by
  unfold cmDivWrite
  split_ifs with hv hr
  · exact .kept rfl
  · exact .kept rfl
  · exact .div v (not_not.mp hv) (Bool.eq_false_iff.mpr hr) rfl (by rw [commit, div_write_event]; rfl)

/-- Which transaction of the table changes the registers, and how. -/
theorem commit_row_registers (i : Instr) (s : State) :
    RegisterChange s (commit (requestOf i) s (rowEffect i s)) := by
  cases i with
  | wrDsr0 v => exact commit_slot_write 0 v s
  | wrDsw0 v => exact commit_slot_write 1 v s
  | wrDsr1 v => exact commit_slot_write 2 v s
  | wrDsw1 v => exact commit_slot_write 3 v s
  | wrDsr2 v => exact commit_slot_write 4 v s
  | wrDsw2 v => exact commit_slot_write 5 v s
  | wrDsr3 v => exact commit_slot_write 6 v s
  | wrDsw3 v => exact commit_slot_write 7 v s
  | wrDcs v => exact commit_dcs_write v s
  | wrCmCtl v => exact commit_ctl_write v s
  | wrCmDiv v => exact commit_div_write v s
  | fselGpio p v =>
    simp only [rowEffect, gpioSelect]
    split <;> exact .kept rfl
  | _ => exact .kept rfl

theorem commit_bus_registers (r : BusReq) (s : State) : RegisterChange s (commit r s (busEffect r s)) := by
  cases hd : decodeBus r with
  | ok i =>
    rw [bus_effect_of_decode hd, ← commit_request_of hd]
    exact commit_row_registers i s
  | error e =>
    simp only [busEffect, hd]
    exact .kept rfl

theorem complete_xfer_registers {s : State} {x : Xfer} (hp : s.pending = some x) (hc : s.clockOK = true) :
    RegisterChange s (completeXfer s x) := by
  obtain ⟨dd, n, es, e, he⟩ := complete_xfer_precise s x
  rw [e]
  exact .completed x hp hc rfl he

theorem block_move_registers {s t : State} (h : BlockMove s t) : RegisterChange s t := by
  cases h with
  | rest => exact .kept rfl
  | fault f b => cases b <;> exact .kept rfl
  | refusal x => exact .kept rfl
  | transaction r => exact commit_bus_registers r s
  | completion x hp hc => exact complete_xfer_registers hp hc

theorem register_change_of_same {s s' t' t : State} (hs : SameBlock s s') (h : RegisterChange s' t')
    (ht : SameBlock t' t) : RegisterChange s t := by
  have hr : s'.registers = s.registers := same_block_registers hs
  have hrt : t.registers = t'.registers := same_block_registers ht
  have hx (v : Word) : startedBy v s' = startedBy v s := by simp only [startedBy, hs.dcs, same_block_started hs]
  cases h with
  | kept h => exact .kept (by rw [hrt, h, hr])
  | slot k v h hh => exact .slot k v (by rw [hrt, h, hr, hs.slot]) (by rw [ht.history, hh, hs.history])
  | dcs v h hh => exact .dcs v (by rw [hrt, h, hr, hs.dcs]) (by rw [ht.history, hh, hs.history])
  | start v hp h1 h0 hw h hh =>
    exact .start v (hs.pending ▸ hp) h1 h0 (hx v ▸ hw) (by rw [hrt, h, hr, hs.dcs, hx])
      (by rw [ht.history, hh, hs.history])
  | width v h hh => exact .width v (by rw [hrt, h, hr, hs.dcs]) (by rw [ht.history, hh, hs.history])
  | ctl v hv h hh => exact .ctl v hv (by rw [hrt, h, hr, hs.clk]) (by rw [ht.history, hh, hs.history])
  | div v hv he h hh =>
    exact .div v hv (hs.clk ▸ he) (by rw [hrt, h, hr, hs.clk]) (by rw [ht.history, hh, hs.history])
  | completed x hp hc h hh =>
    refine .completed x (hs.pending ▸ hp) ?_ (by rw [hrt, h, hr, hs.dcs]) (by rwa [ht.history, ← hs.history])
    rwa [State.clockOK, ← hs.clk]

/-- R30, R31, R158: what any step does to the registers. -/
theorem step_registers {s t : State} (h : step s = .next t) : RegisterChange s t := by
  obtain ⟨s', t', hs, hm, ht⟩ := step_block h
  exact register_change_of_same hs (block_move_registers hm) ht

theorem dcs_store_done (v : Word) (d : Dcs) : (dcsStore v d).done = (d.done && !v.getLsbD 2) := rfl

/-- A stored DONE was there before, and one that goes was cleared by bit 2. -/
theorem dcs_store_done_true {v : Word} {d : Dcs} (h : (dcsStore v d).done = true) : d.done = true :=
  (Bool.and_eq_true_iff.mp h).1

theorem dcs_store_clears {v : Word} {d : Dcs} (hd : d.done = true) (h : (dcsStore v d).done = false) :
    v.getLsbD 2 = true := by
  simpa [dcs_store_done, hd] using h

/-- Settles O53: of the changes of the registers a completion alone sets DONE, and a DCS write alone stores it. -/
theorem doneIsSetByTheEngineAndClearedByWrites : Obligations.DoneIsSetByTheEngineAndClearedByWrites := by
  intro s t hstep
  cases step_registers hstep with
  | kept h | slot _ _ h _ | ctl _ _ h _ | div _ _ _ h _ =>
    have hd : t.dcs = s.dcs := congrArg Registers.dcs h
    exact ⟨fun h0 h1 => by simp [hd, h0] at h1, fun h1 h0 => by simp [hd, h1] at h0⟩
  | dcs v h hh | start v _ _ _ _ h hh =>
    have hd : t.dcs = dcsStore v s.dcs := congrArg Registers.dcs h
    rw [hd]
    exact ⟨fun h0 h1 => by simp [dcs_store_done_true h1] at h0, fun h1 h0 => ⟨v, dcs_store_clears h1 h0, .inl hh⟩⟩
  | width v h hh =>
    have hd : t.dcs = dcsStore v s.dcs := congrArg Registers.dcs h
    rw [hd]
    exact ⟨fun h0 h1 => by simp [dcs_store_done_true h1] at h0, fun h1 h0 => ⟨v, dcs_store_clears h1 h0, .inr hh⟩⟩
  | completed x hp hc h hh =>
    have hd : t.dcs.done = true := congrArg (·.dcs.done) h
    exact ⟨fun _ _ => ⟨⟨x, hp⟩, hc, congrArg Registers.pending h, hh⟩, fun _ h0 => by simp [hd] at h0⟩

/-- Settles O54: a DCS write that starts is the one change that brings a transfer, a completion the one that ends it. -/
theorem pendingComesFromStartAndGoesByCompletion : Obligations.PendingComesFromStartAndGoesByCompletion := by
  intro s t hstep hne
  cases step_registers hstep with
  | kept h | slot _ _ h _ | dcs _ h _ | width _ h _ | ctl _ _ h _ | div _ _ _ h _ =>
    exact absurd (congrArg Registers.pending h) hne
  | start v hp hs he _ h hh =>
    exact .inl ⟨v, startedBy v s, hp, congrArg Registers.pending h, hs, he, hh, rfl, rfl, rfl, rfl, rfl⟩
  | completed x hp hc h _ =>
    exact .inr ⟨x, hp, congrArg Registers.pending h, hc, congrArg (·.dcs.done) h⟩

/-- Settles O55: the one change of the slots is the write of a word to one of them. -/
theorem slotsChangeOnlyByTheirOwnWrites : Obligations.SlotsChangeOnlyByTheirOwnWrites := by
  intro s t k hstep hne
  cases step_registers hstep with
  | kept h | dcs _ h _ | start _ _ _ _ _ h _ | width _ h _ | ctl _ _ h _ | div _ _ _ h _ | completed _ _ _ h _ =>
    have hs : t.slot = s.slot := congrArg Registers.slot h
    exact absurd (by rw [hs]) hne
  | slot j v h hh =>
    have hs : t.slot = s.slot.set j v := congrArg Registers.slot h
    obtain rfl | hjk := eq_or_ne j k
    · have hv : t.slot[j] = v := by simp [hs]
      rw [hv]
      exact hh
    · have hk : t.slot[k] = s.slot[k] := by simp [hs, Vector.getElem_set_ne, Fin.val_ne_of_ne hjk]
      exact absurd hk hne

/-- R27: PASSWD is the top byte of the word. -/
theorem cm_password_toNat (v : Word) : (cmPassword v).toNat = v.toNat / 2 ^ 24 := by
  have hv := v.isLt
  simp only [cmPassword, BitVec.extractLsb'_toNat, Nat.shiftRight_eq_div_pow]
  omega

/-- Settles O56: CTL's and DIV's writes with the password are the changes of the clock. -/
theorem clockChangesOnlyByPasswordWrites : Obligations.ClockChangesOnlyByPasswordWrites := by
  intro s t hstep hne
  have hpass {v : Word} (hv : cmPassword v = cmPasswd) : v.toNat / 2 ^ 24 = 0x5A := by
    rw [← cm_password_toNat, hv]; rfl
  cases step_registers hstep with
  | kept h | slot _ _ h _ | dcs _ h _ | start _ _ _ _ _ h _ | width _ h _ | completed _ _ _ h _ =>
    exact absurd (congrArg Registers.clk h) hne
  | ctl v hv h hh =>
    exact ⟨v, hpass hv, .inl ⟨hh, congrArg (·.clk.divi) h, congrArg (·.clk.divf) h⟩⟩
  | div v hv he h hh =>
    exact ⟨v, hpass hv, .inr ⟨hh, he, (congrArg (·.clk.enab) h).trans he, congrArg (·.clk.src) h⟩⟩

/-! ### What a step can do to the controller -/

/-- Two states agree on the controller: its phase, handle, latches and response. -/
structure SameControl (s t : State) : Prop where
  pc : t.pc = s.pc
  hstate : t.hstate = s.hstate
  x : t.x = s.x
  response : t.response = s.response

theorem same_control_trans {s t u : State} (h : SameControl s t) (h' : SameControl t u) : SameControl s u :=
  ⟨h'.pc.trans h.pc, h'.hstate.trans h.hstate, h'.x.trans h.x, h'.response.trans h.response⟩

/-- The moves of the block leave the controller alone (R14, R38). -/
theorem block_move_control {s t : State} (h : BlockMove s t) : SameControl s t := by
  cases h with
  | rest => constructor <;> rfl
  | fault f b => constructor <;> simp
  | refusal x => constructor <;> rfl
  | transaction r =>
    obtain ⟨f, e⟩ | ⟨t, ev, hs, e⟩ | ⟨t, ev, x, hs, e⟩ := commit_bus_cases r s <;> rw [e]
    · constructor <;> simp
    · exact ⟨hs.pc, hs.hstate, hs.x, hs.response⟩
    · exact ⟨hs.pc, hs.hstate, hs.x, hs.response⟩
  | completion x _ _ =>
    obtain ⟨dd, n, es, e, -⟩ := complete_xfer_precise s x
    rw [e]
    constructor <;> rfl

/-- The state that a command's accept step acts on (R135): its turn and words used up, the old response gone. -/
def State.accepting (s : State) (rest : List Word) : State := (s.afterTurn.setPort rest).setResponse none

/-- What a step does to the controller. -/
inductive ControlStep (s t : State) : Prop where
  | keeps (h : SameControl s t)
  | phase (h : t = phaseStep s.afterTurn)
  | accepts (i : Instr) (rest : List Word) (hs : s.schedule.head? = some .host) (hc : i.isCommand = true)
      (hp : s.pc = .idle) (hh : handleAdmits i s.hstate) (h : t = acceptOf i (s.accepting rest))

/-- Only a phase and an accept step move the controller (R14, R135). -/
theorem step_control {s t : State} (h : step s = .next t) : ControlStep s t := by
  have hturn : SameControl s s.afterTurn := by constructor <;> rfl
  have hmove {u : State} (m : BlockMove s.afterTurn u) : ControlStep s u :=
    .keeps (same_control_trans hturn (block_move_control m))
  have hport {u : State} (ws : List Word) (m : BlockMove (s.afterTurn.setPort ws) u) : ControlStep s u :=
    .keeps (same_control_trans (by constructor <;> rfl) (block_move_control m))
  cases step_kind h with
  | engine _ ht => exact ht ▸ hmove (engine_step_block_move _)
  | phase _ _ ht => exact .phase ht
  | waits _ _ ht => exact .keeps (ht ▸ hturn)
  | illegal _ _ _ ht =>
    subst ht
    obtain ⟨-, e⟩ | ⟨-, e⟩ := admit_illegal_cases (s.afterTurn.setPort s.port.tail)
    · exact e ▸ hport _ (.fault _ _)
    · exact e ▸ hport _ (.refusal _)
  | command i rest hs hd ht =>
    have hc := decode_command_is_command hd
    obtain ⟨-, ⟨-, rfl⟩ | ⟨-, -, -, rfl⟩ | ⟨-, -, -, rfl⟩ | ⟨hp, hh, rfl⟩⟩ := exec_command_next hc ht
    · exact hport rest (.fault _ _)
    · exact hport rest (.fault _ _)
    · exact hport rest (.fault _ _)
    · exact .accepts i rest hs hc hp hh rfl
  | bus r i _ _ hd ht =>
    obtain ⟨-, rfl⟩ := exec_decoded_bus hd ht
    exact hmove (.transaction r)
  | unlisted r e _ _ _ _ ht => exact ht ▸ hmove (.fault _ _)
  | secondIssuer r _ _ _ ht => exact ht ▸ hmove (.fault _ _)

/-! #### The handle (R13) -/

theorem phase_step_hstate {s : State} (h : s.pc ≠ .deactRelease) : (phaseStep s).hstate = s.hstate := by
  obtain ⟨u, hm, ho⟩ := phase_step_move s h
  exact ho.hstate.trans (block_move_control hm).hstate

theorem accept_of_hstate {i : Instr} (h : i ≠ .activate) (s : State) : (acceptOf i s).hstate = s.hstate := by
  cases i with
  | activate => exact absurd rfl h
  | setTiming => simp only [acceptOf, acceptSetTiming]; split <;> rfl
  | writeByte | readByte => simp only [acceptOf, acceptTransfer]; split <;> rfl
  | _ => rfl

/-- The two outcomes of the mapping (R133). -/
theorem accept_activate_cases (s : State) :
    (acceptActivate s).x.opc = opcActivate ∧
    (((acceptActivate s).hstate = .active ∧ (acceptActivate s).pc = .clkDisable) ∨
     ((acceptActivate s).hstate = .failed ∧ (acceptActivate s).pc = .idle ∧
      (acceptActivate s).response = some ⟨.unavailable, 0⟩)) := by
  unfold acceptActivate
  split
  · exact ⟨rfl, .inl ⟨rfl, rfl⟩⟩
  · exact ⟨rfl, .inr ⟨rfl, rfl, rfl⟩⟩

/-- Settles O52: the phases but DEACT_RELEASE and the accept steps but ACTIVATE's keep the handle. -/
theorem onlyActivationChangesTheHandle : Obligations.OnlyActivationChangesTheHandle := by
  intro s t hstep hne
  cases step_control hstep with
  | keeps h => exact absurd h.hstate hne
  | phase h =>
    subst h
    by_cases hr : s.afterTurn.pc = .deactRelease
    · rw [phase_step_deact_release hr]
      exact .inr ⟨hr, rfl, rfl⟩
    · exact absurd (phase_step_hstate hr) hne
  | accepts i rest hs _ hp hh h =>
    subst h
    by_cases hi : i = .activate
    · subst hi
      obtain ⟨hopc, ⟨ha, hpc⟩ | ⟨hfail, -, hresp⟩⟩ := accept_activate_cases (s.accepting rest)
      · exact .inl ⟨hp, by simpa [handleAdmits] using hh, hopc, hs, .inl ⟨ha, hpc⟩⟩
      · exact .inl ⟨hp, by simpa [handleAdmits] using hh, hopc, hs, .inr ⟨hfail, hresp, accept_of_history .activate _⟩⟩
    · exact absurd (accept_of_hstate hi _) hne

/-! #### After a fault (R142, R143) -/

/-- R142: no command and no row runs after a fault. -/
theorem exec_next_running {i : Instr} {s t : State} (h : exec i s = .next t) : s.fault = none := by
  cases hc : i.isCommand with
  | true => exact (exec_command_next hc h).1
  | false => exact (exec_bus_next hc h).1

/-- After a fault a step is the engine's, or a host's turn with no whole command on the port. -/
theorem step_after_fault {s t : State} {f : FaultRecord} (hf : s.fault = some f) (h : step s = .next t) :
    t = engineStep s.afterTurn ∨ t = s.afterTurn := by
  have hrun : s.fault ≠ none := by simp [hf]
  cases step_kind h with
  | engine _ ht => exact .inl ht
  | waits _ _ ht => exact .inr ht
  | command i rest _ _ ht => exact absurd (exec_next_running (s := s.afterTurn.setPort rest) ht) hrun
  | bus r i _ _ _ ht => exact absurd (exec_next_running (s := s.afterTurn) ht) hrun
  | phase _ hn _ | illegal _ hn _ _ | unlisted _ _ _ _ _ hn _ | secondIssuer _ _ _ hn _ => exact absurd hn hrun

/-- Settles O50: the marks are kept by every move, and after a fault only a completion is left to happen. -/
theorem marksAreStickyAndAFaultStopsTheController : Obligations.MarksAreStickyAndAFaultStopsTheController := by
  intro s t hstep
  refine ⟨fun hr => ?_, fun f hf => ?_⟩
  · obtain ⟨h, -⟩ | ⟨h, -⟩ := (step_keeps_marks hstep).marks
    · exact h.trans hr
    · exact h
  · obtain rfl | rfl := step_after_fault hf hstep
    · obtain ⟨x, -, -, e⟩ | ⟨-, e⟩ := engine_step_cases s.afterTurn
      · obtain ⟨dd, n, es, ex, hes⟩ := complete_xfer_precise s.afterTurn x
        rw [e, ex]
        exact ⟨hf, rfl, rfl, rfl, rfl, rfl, rfl, rfl, rfl, rfl, .inr hes⟩
      · rw [e]
        exact ⟨hf, rfl, rfl, rfl, rfl, rfl, rfl, rfl, rfl, rfl, .inl rfl⟩
    · exact ⟨hf, rfl, rfl, rfl, rfl, rfl, rfl, rfl, rfl, rfl, .inl rfl⟩

/-! ### The controller's invariant (R14, R15, R17, R86, R139) -/

theorem phase_fits_of_same_control {s t : State} (h : SameControl s t) (hf : s.phaseFits = true) :
    t.phaseFits = true := by
  rw [← hf]
  simp only [State.phaseFits, h.pc, h.hstate, h.x]

theorem phase_fits_idle {s : State} (h : s.pc = .idle) : s.phaseFits = true := by
  simp only [State.phaseFits, h]

/-- In the transfer phases the handle is ACTIVE and the latches are a transfer's (R114). -/
theorem phase_fits_transfer {s : State} (h : s.phaseFits = true) (hp : s.pc.isTransfer = true) :
    s.hstate = .active ∧ transferLatches s.x = true := by
  cases hpc : s.pc with
  | xfCheck | xfAddr | xfTrigger | xfPoll | xfClearDone => simpa [State.phaseFits, hpc] using h
  | xfClearStale | xfData | xfCapture =>
    simp only [State.phaseFits, hpc, Bool.and_eq_true] at h
    simpa using h.1
  | _ => simp [hpc, Phase.isTransfer] at hp

/-- In the slot set-up the command is ACTIVATE, at one of the eight slots (R132). -/
theorem phase_fits_setup {s : State} (h : s.phaseFits = true)
    (hp : s.pc = .actSlotInit ∨ s.pc = .actSlotRead ∨ s.pc = .actSlotWrite) :
    s.hstate = .active ∧ s.x.opc = opcActivate ∧ s.x.k.toNat ≤ 7 := by
  obtain hp | hp | hp := hp <;> simpa [State.phaseFits, hp, and_assoc] using h

/-- The direction tells the two transfer commands apart (R114). -/
theorem transfer_latches_write {x : Latches} (h : transferLatches x = true) (hd : x.dir = .write) :
    x.opc = opcWriteByte := by
  simp only [transferLatches, hd, Bool.and_eq_true] at h
  simpa using h.2

theorem transfer_latches_read {x : Latches} (h : transferLatches x = true) (hd : x.dir = .read) :
    x.opc = opcReadByte := by
  simp only [transferLatches, hd, Bool.and_eq_true] at h
  simpa using h.2

/-! #### The phases -/

/-- A phase's write keeps the fit when the rest of the phase does, from the phase the write was issued in. -/
theorem issue_write_fits (r : BusReq) {after : State → State} {s : State} (hs : s.phaseFits = true)
    (ha : ∀ u, u.phaseFits = true → u.pc = s.pc → (after u).phaseFits = true) :
    (issueWrite r after s).phaseFits = true := by
  have hc := block_move_control (.transaction (s := s) r)
  have hu := phase_fits_of_same_control hc hs
  unfold issueWrite
  split
  · exact hu
  · exact ha _ hu hc.pc

theorem issue_read_fits (r : BusReq) {after : Word → State → State} {s : State} (hs : s.phaseFits = true)
    (ha : ∀ v u, u.phaseFits = true → u.pc = s.pc → (after v u).phaseFits = true) :
    (issueRead r after s).phaseFits = true := by
  have hc := block_move_control (.transaction (s := s) r)
  have hu := phase_fits_of_same_control hc hs
  unfold issueRead
  generalize busEffect r s = e at hc hu ⊢
  cases e with
  | done v t => exact ha v _ hu hc.pc
  | refused x t => exact hu
  | fault f => exact hu

/-- R99: CLK_ENABLE exits to the pin loop of ACTIVATE, or to the response. -/
theorem clk_exit_fits {s : State} (hs : s.phaseFits = true) (hp : s.pc = .clkEnable) : (clkExit s).phaseFits = true := by
  obtain ⟨ha, hopc⟩ : s.hstate = .active ∧ (s.x.opc = opcActivate ∨ s.x.opc = opcConfigureClock) := by
    simpa [State.phaseFits, hp] using hs
  unfold clkExit
  split
  · next h => simp [State.phaseFits, ha, h]
  · next h => simp [State.phaseFits, ha, hopc.resolve_left h]

/-- R104: the pin loop goes round, or exits where its command goes on. -/
theorem pin_exit_fits {s : State} (hs : s.phaseFits = true) (hp : s.pc = .pinSet) : (pinExit s).phaseFits = true := by
  obtain ⟨ha, hopc⟩ : s.hstate = .active ∧
      ((s.x.opc = opcActivate ∨ s.x.opc = opcActivatePins) ∧ s.x.fsel = fselSmi ∨
        (s.x.opc = opcDeactivate ∨ s.x.opc = opcDeactivatePins) ∧ s.x.fsel = fselInput) := by
    simpa [State.phaseFits, hp] using hs
  unfold pinExit
  split_ifs with hk h1 h2
  · simpa [State.phaseFits, hp] using hs
  · simp [State.phaseFits, ha, h1]
  · simp [State.phaseFits, ha, h2]
  · obtain ⟨hopc, -⟩ | ⟨hopc, -⟩ := hopc
    · simp [State.phaseFits, ha, hopc.resolve_left h1]
    · simp [State.phaseFits, ha, hopc.resolve_left h2]

/-- R132: the set-up loop goes round with the next slot, or exits to the response. -/
theorem setup_exit_fits {s : State} (hs : s.phaseFits = true) (hp : s.pc = .actSlotWrite) :
    (setupExit s).phaseFits = true := by
  obtain ⟨ha, hopc, -⟩ := phase_fits_setup hs (.inr (.inr hp))
  unfold setupExit
  split
  · next hk =>
    have hk' : (s.x.k.toNat + 1) % 16 ≤ 7 := by omega
    simp [State.phaseFits, ha, hopc, hk']
  · simp [State.phaseFits, ha, hopc]

/-- R115: XF_CHECK exits through XF_CLEAR_STALE with the stale mark. -/
theorem check_exit_fits (r : Word) {s : State} (hs : s.phaseFits = true) (hp : s.pc = .xfCheck) :
    (if dcsDone r then (s.setX { s.x with stale := true }).setPc .xfClearStale else s.setPc .xfAddr).phaseFits = true := by
  obtain ⟨ha, hx⟩ := phase_fits_transfer hs (by rw [hp]; rfl)
  have hx' : transferLatches { s.x with stale := true } = true := hx
  split
  · simp [State.phaseFits, ha, hx']
  · simp [State.phaseFits, ha, hx]

/-- R117: XF_ADDR exits to XF_DATA for a write alone. -/
theorem addr_exit_fits {s : State} (hs : s.phaseFits = true) (hp : s.pc = .xfAddr) :
    (s.setPc (match s.x.dir with | .write => .xfData | .read => .xfTrigger)).phaseFits = true := by
  obtain ⟨ha, hx⟩ := phase_fits_transfer hs (by rw [hp]; rfl)
  cases hd : s.x.dir with
  | write => simp [State.phaseFits, ha, hx, transfer_latches_write hx hd]
  | read => simp [State.phaseFits, ha, hx]

/-- R120: XF_POLL exits to XF_CAPTURE for a read alone, ends with TIMEOUT, or polls again. -/
theorem poll_next_fits (d : Bool) {s : State} (hs : s.phaseFits = true) (hp : s.pc = .xfPoll) :
    (pollNext d s).phaseFits = true := by
  obtain ⟨ha, hx⟩ := phase_fits_transfer hs (by rw [hp]; rfl)
  obtain ⟨-, e⟩ | ⟨-, -, e⟩ | ⟨-, -, e⟩ := poll_next_cases d s <;> rw [e]
  · cases hd : s.x.dir with
    | read => simp [State.phaseFits, ha, hx, transfer_latches_read hx hd]
    | write => simp [State.phaseFits, ha, hx]
  · exact phase_fits_idle rfl
  · simp [State.phaseFits, ha, hx]

/-- R15: every phase leaves latches that fit the next. -/
theorem phase_step_fits {s : State} (hs : s.phaseFits = true) : (phaseStep s).phaseFits = true := by
  unfold phaseStep
  cases hp : s.pc with
  | idle => exact hs
  | respond => exact phase_fits_idle rfl
  | deactRelease =>
    have h : s.hstate = .active ∧ s.x.opc = opcDeactivate := by simpa [State.phaseFits, hp] using hs
    simp [phaseDeactRelease, State.phaseFits, h]
  | clkEnable => exact issue_write_fits _ hs fun _ hu hpc => clk_exit_fits hu (hpc.trans hp)
  | pinSet => exact issue_write_fits _ hs fun _ hu hpc => pin_exit_fits hu (hpc.trans hp)
  | actSlotWrite => exact issue_write_fits _ hs fun _ hu hpc => setup_exit_fits hu (hpc.trans hp)
  | xfAddr => exact issue_write_fits _ hs fun _ hu hpc => addr_exit_fits hu (hpc.trans hp)
  | xfCheck => exact issue_read_fits _ hs fun v _ hu hpc => check_exit_fits v hu (hpc.trans hp)
  | xfPoll =>
    refine issue_read_fits _ hs fun v u hu hpc => poll_next_fits _ ?_ (hpc.trans hp)
    exact hu
  | clkDisable | clkDivide =>
    refine issue_write_fits _ hs fun u hu hpc => ?_
    simpa [State.phaseFits, hpc, hp] using hu
  | timRead =>
    refine issue_read_fits _ hs fun _ u hu hpc => ?_
    simpa [State.phaseFits, hpc, hp] using hu
  | actSlotInit =>
    refine issue_write_fits _ hs fun u hu hpc => ?_
    simp [State.phaseFits, phase_fits_setup hu (.inl (hpc.trans hp))]
  | actSlotRead =>
    refine issue_read_fits _ hs fun _ u hu hpc => ?_
    simp [State.phaseFits, phase_fits_setup hu (.inr (.inl (hpc.trans hp)))]
  | timWrite =>
    refine issue_write_fits _ hs fun u hu hpc => ?_
    have h : (u.hstate = .active ∧ u.x.opc = opcSetTiming) ∧ channelOut u.x.op0 = false := by
      simpa [State.phaseFits, hpc, hp] using hu
    simp [State.phaseFits, h]
  | xfClearStale | xfData | xfTrigger | xfClearDone =>
    refine issue_write_fits _ hs fun u hu hpc => ?_
    simp [State.phaseFits, phase_fits_transfer hu (by rw [hpc, hp]; rfl)]
  | xfCapture =>
    refine issue_read_fits _ hs fun v u hu hpc => ?_
    obtain ⟨ha, hx⟩ := phase_fits_transfer hu (by rw [hpc, hp]; rfl)
    have hx' : transferLatches { u.x with rdata := ddByte v } = true := hx
    simp [State.phaseFits, ha, hx']

/-! #### The accept steps -/

/-- R114: the guard answers at once; past it the latches are a transfer's. -/
theorem accept_transfer_fits {x : Latches} {s : State} (ha : s.hstate = .active)
    (hx : (x.opc = opcWriteByte ∧ x.dir = .write) ∨ (x.opc = opcReadByte ∧ x.dir = .read)) :
    (acceptTransfer x s).phaseFits = true := by
  unfold acceptTransfer
  split
  · exact phase_fits_idle rfl
  · next hch =>
    simp [State.phaseFits, transferLatches, ha, hch, hx]

/-- R135: an accept step leaves latches that fit its first phase. -/
theorem accept_of_fits {i : Instr} {s : State} (hc : i.isCommand = true) (hh : handleAdmits i s.hstate) :
    (acceptOf i s).phaseFits = true := by
  have hactive (hi : i ≠ .activate) : s.hstate = .active := by simpa [handleAdmits, hi] using hh
  cases i with
  | activate =>
    obtain ⟨hopc, ⟨ha, hp⟩ | ⟨-, hp, -⟩⟩ := accept_activate_cases s
    · simp [acceptOf, State.phaseFits, hp, ha, hopc]
    · exact phase_fits_idle hp
  | setTiming d ch a b c e =>
    simp only [acceptOf, acceptSetTiming]
    split
    · exact phase_fits_idle rfl
    · next hch => simp [State.phaseFits, hactive (by simp), hch]
  | writeByte ch addr data => exact accept_transfer_fits (hactive (by simp)) (.inl ⟨rfl, rfl⟩)
  | readByte ch addr => exact accept_transfer_fits (hactive (by simp)) (.inr ⟨rfl, rfl⟩)
  | configureClock => simp [acceptOf, acceptConfigureClock, State.phaseFits, hactive (by simp)]
  | deactivate | activatePins | deactivatePins =>
    simp [acceptOf, startPinLoop, State.phaseFits, hactive (by simp)]
  | _ => cases hc

theorem accept_of_response (i : Instr) {s : State} (hr : s.response = none) (h : (acceptOf i s).pc ≠ .idle) :
    (acceptOf i s).response = none := by
  cases i with
  | activate =>
    simp only [acceptOf, acceptActivate] at h ⊢
    split_ifs at h ⊢
    · exact hr
    · exact absurd rfl h
  | setTiming =>
    simp only [acceptOf, acceptSetTiming] at h ⊢
    split_ifs at h ⊢
    · exact absurd rfl h
    · exact hr
  | writeByte | readByte =>
    simp only [acceptOf, acceptTransfer] at h ⊢
    split_ifs at h ⊢
    · exact absurd rfl h
    · exact hr
  | _ => exact hr

/-! #### The step -/

theorem step_fits {s t : State} (hs : s.phaseFits = true) (h : step s = .next t) : t.phaseFits = true := by
  cases step_control h with
  | keeps h => exact phase_fits_of_same_control h hs
  | phase h => exact h ▸ phase_step_fits (s := s.afterTurn) hs
  | accepts i rest _ hc _ hh h => exact h ▸ accept_of_fits (s := s.accepting rest) hc hh

/-- R17: no phase gives a response but the one that ends its command. -/
theorem phase_step_response {s : State} (hs : s.pc ≠ .idle → s.response = none) (h : (phaseStep s).pc ≠ .idle) :
    (phaseStep s).response = none := by
  have hp : s.pc ≠ .idle := fun hp => h (by simp only [phaseStep, hp])
  by_cases hr : s.pc = .deactRelease
  · rw [phase_step_deact_release hr]
    exact hs hp
  · obtain ⟨u, hm, ho⟩ := phase_step_move s hr
    exact ((ho.response h).trans (block_move_control hm).response).trans (hs hp)

theorem step_response {s t : State} (hs : s.pc ≠ .idle → s.response = none) (h : step s = .next t)
    (hp : t.pc ≠ .idle) : t.response = none := by
  cases step_control h with
  | keeps h => exact h.response.trans (hs (h.pc ▸ hp))
  | phase h =>
    subst h
    exact phase_step_response (s := s.afterTurn) hs hp
  | accepts i rest _ _ _ _ h =>
    subst h
    exact accept_of_response i (s := s.accepting rest) rfl hp

/-- R86: a transfer that a step starts goes through an 8-bit slot. -/
theorem step_width {s t : State} (hs : ∀ x, s.pending = some x → slotWidth x.slot = width8Code)
    (h : step s = .next t) : ∀ x, t.pending = some x → slotWidth x.slot = width8Code := by
  cases step_registers h with
  | kept h | slot _ _ h _ | dcs _ h _ | width _ h _ | ctl _ _ h _ | div _ _ _ h _ =>
    have hp : t.pending = s.pending := congrArg Registers.pending h
    exact hp ▸ hs
  | start v _ _ _ hw h _ =>
    have hp : t.pending = some (startedBy v s) := congrArg Registers.pending h
    intro x hx
    cases hp.symm.trans hx
    exact hw
  | completed x _ _ h _ =>
    have hp : t.pending = none := congrArg Registers.pending h
    intro x hx
    cases hp.symm.trans hx

/-- R139: the refused mark and the reason of the latest refusal are set together. -/
theorem step_refusal {s t : State} (hs : s.refused = s.refusal.isSome) (h : step s = .next t) :
    t.refused = t.refusal.isSome := by
  obtain ⟨hm, hr⟩ | ⟨hm, hr⟩ := (step_keeps_marks h).marks
  · rw [hm, hr, hs]
  · rw [hm, hr]

/-- Settles O45: each part of the invariant is kept by what a step can do to its fields. -/
theorem everyStepKeepsTheInvariant : Obligations.EveryStepKeepsTheInvariant :=
  fun _ _ hs h => ⟨step_fits hs.phase h, step_response hs.response h, step_width hs.width h, step_refusal hs.refusal h⟩

/-! ### The operand commands are accepted (R108, R114) -/

/-- R135: an ACTIVE handle in IDLE admits a command. -/
theorem admitted_command_runs {accept : State → State} {s : State} (hf : s.fault = none) (hp : s.pc = .idle)
    (hh : s.hstate = .active) :
    whileRunning s (admitCommand accept s) = .next (accept (s.setResponse none)) := by
  rw [while_running_of_none _ hf]
  obtain ⟨h, -⟩ | ⟨-, h, -⟩ | ⟨-, -, e⟩ := admit_cases accept s
  · exact absurd hp h
  · exact absurd hh h
  · rw [e]

/-- R51: a channel 0..3 passes the guard. -/
theorem channel_in_range {ch : Word} (h : ch.toNat ≤ 3) : channelOut ch = false := by
  simpa [channelOut, BitVec.lt_def] using h

/-- Settles O29: past admission and the guard, each accept step loads its latches. -/
theorem operandCommandsAreAccepted : Obligations.OperandCommandsAreAccepted := by
  intro s dir ch a b c e ⟨hf, _⟩ hp hh hch
  have hch := channel_in_range hch
  refine ⟨(admitted_command_runs hf hp hh).trans ?_, (admitted_command_runs hf hp hh).trans ?_,
    (admitted_command_runs hf hp hh).trans ?_⟩
  · simp only [acceptSetTiming, hch]; rfl
  · simp only [acceptTransfer, hch]; rfl
  · simp only [acceptTransfer, hch]; rfl

end Sys2Proof.Machine
end

section
/-! PROOFS. 20_memory.md: outside the direct-transfer phases the controller and the engine do not disturb each other
(O58). A phase is its transaction and its exit; each of the two commutes with `State.withoutEngine`, and neither reaches
the transfer in flight, DCS, DA or DD. -/

namespace Sys2Proof.Machine

/-! ### The block without the engine's part (R97) -/

@[simp] theorem State.withoutEngine_pc (s : State) : s.withoutEngine.pc = s.pc := rfl
@[simp] theorem State.withoutEngine_x (s : State) : s.withoutEngine.x = s.x := rfl
@[simp] theorem State.withoutEngine_clk (s : State) : s.withoutEngine.clk = s.clk := rfl

/-- A transaction's record is outside the engine's part of the history. -/
theorem without_engine_log {e : Event} (he : isBusEvent e = true) (s : State) :
    (s.log e).withoutEngine = s.withoutEngine.log e := by
  simp [State.withoutEngine, State.log, he]

theorem is_bus_event_record (r : BusReq) (v : Word) : isBusEvent (busEvent r v) = true := by
  unfold busEvent
  split <;> rfl

/-- R97: a completion changes nothing outside the engine's part. -/
theorem engine_step_without_engine (s : State) : (engineStep s).withoutEngine = s.withoutEngine := by
  obtain ⟨x, -, -, e⟩ | ⟨-, e⟩ := engine_step_cases s
  · obtain ⟨dd, n, es, ex, c, a, d, b, w, hes⟩ := complete_xfer_precise s x
    rw [e, ex, hes]
    simp [State.withoutEngine, isBusEvent]
  · rw [e]

/-! ### What goes on beside the engine -/

/-- Two states agree on the transfer in flight and on the registers it is started and answered through. -/
structure SameTransfer (s t : State) : Prop where
  pending : t.pending = s.pending
  dcs : t.dcs = s.dcs
  da : t.da = s.da
  dd : t.dd = s.dd

theorem same_transfer_refl (s : State) : SameTransfer s s := by constructor <;> rfl

theorem same_transfer_take_fault (s : State) (f : Fault) (b : Option BusReq) : SameTransfer s (s.takeFault f b) := by
  constructor <;> simp

/-- What leads from `s` to `t`, and from `s` without the engine's part to `t'`, goes on beside the engine: it comes to
the same outside the engine's part, and it leaves the transfer alone. -/
structure BesideEngine (s t t' : State) : Prop where
  outside : t' = t.withoutEngine
  transfer : SameTransfer s t

theorem beside_engine_trans {s u t t' : State} (h : SameTransfer s u) (h' : BesideEngine u t t') :
    BesideEngine s t t' :=
  ⟨h'.outside, h'.transfer.pending.trans h.pending, h'.transfer.dcs.trans h.dcs, h'.transfer.da.trans h.da,
    h'.transfer.dd.trans h.dd⟩

/-! #### A phase's transaction -/

/-- The effect on the block without the engine's part. -/
def Effect.withoutEngine : Effect → Effect
  | .done v t => .done v t.withoutEngine
  | .refused x t => .refused x t.withoutEngine
  | .fault f => .fault f

/-- The rule that a request reaches neither reads the engine's part nor changes the transfer. -/
structure RequestBesideEngine (r : BusReq) : Prop where
  outside : ∀ s, busEffect r s.withoutEngine = (busEffect r s).withoutEngine
  transfer : ∀ s t, (busEffect r s).state? = some t → SameTransfer s t

/-- Recording a transaction goes on beside the engine when its rule does. -/
theorem commit_beside_engine {r : BusReq} (hr : RequestBesideEngine r) (s : State) :
    BesideEngine s (commit r s (busEffect r s)) (commit r s.withoutEngine (busEffect r s.withoutEngine)) := by
  rw [hr.outside]
  have ht := hr.transfer s
  generalize busEffect r s = e at ht
  cases e with
  | done v t =>
    obtain ⟨hp, hdcs, hda, hdd⟩ := ht t rfl
    exact ⟨(without_engine_log (is_bus_event_record r v) t).symm, hp, hdcs, hda, hdd⟩
  | refused x t =>
    obtain ⟨hp, hdcs, hda, hdd⟩ := ht t rfl
    exact ⟨congrArg (·.markRefused x) (without_engine_log rfl t).symm, hp, hdcs, hda, hdd⟩
  | fault f => exact ⟨(without_engine_log rfl (s.setFault _)).symm, same_transfer_take_fault s f (some r)⟩

theorem effect_faults_without_engine (e : Effect) : e.withoutEngine.faults = e.faults := by
  cases e <;> rfl

theorem issue_write_beside_engine {r : BusReq} {after : State → State} (s : State) (hr : RequestBesideEngine r)
    (ha : ∀ u, BesideEngine u (after u) (after u.withoutEngine)) :
    BesideEngine s (issueWrite r after s) (issueWrite r after s.withoutEngine) := by
  have hc := commit_beside_engine hr s
  have hf : (busEffect r s.withoutEngine).faults = (busEffect r s).faults := by
    rw [hr.outside, effect_faults_without_engine]
  simp only [issueWrite, hf]
  split
  · exact hc
  · rw [hc.outside]
    exact beside_engine_trans hc.transfer (ha _)

theorem issue_read_beside_engine {r : BusReq} {after : Word → State → State} (s : State)
    (hr : RequestBesideEngine r) (ha : ∀ v u, BesideEngine u (after v u) (after v u.withoutEngine)) :
    BesideEngine s (issueRead r after s) (issueRead r after s.withoutEngine) := by
  have hc := commit_beside_engine hr s
  simp only [issueRead, hr.outside] at hc ⊢
  generalize busEffect r s = e at hc ⊢
  cases e with
  | done v t =>
    simp only [Effect.withoutEngine] at hc ⊢
    rw [hc.outside]
    exact beside_engine_trans hc.transfer (ha v _)
  | refused x t => exact hc
  | fault f => exact hc

/-! #### The requests outside the transfer phases (R93 to R95, R67 to R82) -/

theorem ctl_write_beside_engine (v : Word) : RequestBesideEngine (ctlWrite v) := by
  constructor
  · intro s
    simp only [bus_ctl_write, cmCtlWrite]
    rw [State.withoutEngine_clk]
    split_ifs <;> rfl
  · intro s t h
    simp only [bus_ctl_write, cmCtlWrite] at h
    split_ifs at h
    · cases h; exact same_transfer_refl s
    · cases h
    · cases h; constructor <;> rfl

theorem div_write_beside_engine (v : Word) : RequestBesideEngine (divWrite v) := by
  constructor
  · intro s
    simp only [bus_div_write, cmDivWrite]
    rw [State.withoutEngine_clk]
    split_ifs <;> rfl
  · intro s t h
    simp only [bus_div_write, cmDivWrite] at h
    split_ifs at h
    · cases h; exact same_transfer_refl s
    · cases h
    · cases h; constructor <;> rfl

theorem gpio_set_beside_engine (k : BitVec 4) (f : BitVec 3) : RequestBesideEngine (gpioSet (k.setWidth 5) f) := by
  constructor
  · intro s
    simp only [bus_gpio_set]
    rfl
  · intro s t h
    simp only [bus_gpio_set] at h
    cases h
    constructor <;> rfl

theorem slot_read_beside_engine (k : Fin 8) : RequestBesideEngine (smiRead (BitVec.ofNat 5 (4 + k.val))) := by
  constructor
  · intro s
    simp only [bus_slot_read]
    rfl
  · intro s t h
    simp only [bus_slot_read] at h
    cases h
    exact same_transfer_refl s

theorem slot_write_beside_engine (k : Fin 8) (v : Word) :
    RequestBesideEngine (smiWrite (BitVec.ofNat 5 (4 + k.val)) v) := by
  constructor
  · intro s
    simp only [bus_slot_write]
    rfl
  · intro s t h
    simp only [bus_slot_write] at h
    cases h
    constructor <;> rfl

/-- The slot set-up visits slots only (R132). -/
theorem setup_index_slot {s : State} (hf : s.phaseFits = true)
    (hp : s.pc = .actSlotInit ∨ s.pc = .actSlotRead ∨ s.pc = .actSlotWrite) :
    ∃ k : Fin 8, setupIndex s = BitVec.ofNat 5 (4 + k.val) := by
  obtain ⟨-, -, hk⟩ := phase_fits_setup hf hp
  exact ⟨_, setup_index_eq s.x.k (Nat.lt_succ_of_le hk)⟩

/-! #### A phase's exit -/

theorem set_pc_beside_engine (s : State) (p : Phase) : BesideEngine s (s.setPc p) (s.withoutEngine.setPc p) :=
  ⟨rfl, by constructor <;> rfl⟩

theorem set_x_set_pc_beside_engine (s : State) (x : Latches) (p : Phase) :
    BesideEngine s ((s.setX x).setPc p) ((s.withoutEngine.setX x).setPc p) :=
  ⟨rfl, by constructor <;> rfl⟩

theorem clk_exit_beside_engine (s : State) : BesideEngine s (clkExit s) (clkExit s.withoutEngine) := by
  unfold clkExit
  rw [State.withoutEngine_x]
  split
  · exact set_x_set_pc_beside_engine s _ _
  · exact set_pc_beside_engine s _

theorem pin_exit_beside_engine (s : State) : BesideEngine s (pinExit s) (pinExit s.withoutEngine) := by
  unfold pinExit
  rw [State.withoutEngine_x]
  split_ifs
  · exact ⟨rfl, by constructor <;> rfl⟩
  · exact set_x_set_pc_beside_engine s _ _
  · exact set_pc_beside_engine s _
  · exact set_pc_beside_engine s _

theorem setup_exit_beside_engine (s : State) : BesideEngine s (setupExit s) (setupExit s.withoutEngine) := by
  unfold setupExit
  rw [State.withoutEngine_x]
  split
  · exact set_x_set_pc_beside_engine s _ _
  · exact set_pc_beside_engine s _

/-! ### The phases -/

/-- R41, R97: outside the transfer phases a phase goes on beside the engine. -/
theorem phase_step_beside_engine {s : State} (hf : s.phaseFits = true) (ht : s.pc.isTransfer = false) :
    BesideEngine s (phaseStep s) (phaseStep s.withoutEngine) := by
  simp only [phaseStep, State.withoutEngine_pc]
  cases hp : s.pc with
  | idle | respond | deactRelease => exact ⟨rfl, by constructor <;> rfl⟩
  | clkDisable => exact issue_write_beside_engine s (ctl_write_beside_engine _) fun u => set_pc_beside_engine u _
  | clkDivide => exact issue_write_beside_engine s (div_write_beside_engine _) fun u => set_pc_beside_engine u _
  | clkEnable => exact issue_write_beside_engine s (ctl_write_beside_engine _) clk_exit_beside_engine
  | pinSet => exact issue_write_beside_engine s (gpio_set_beside_engine s.x.k s.x.fsel) pin_exit_beside_engine
  | timRead =>
    exact issue_read_beside_engine s (slot_read_beside_engine (timingSlot s)) fun _ u =>
      set_x_set_pc_beside_engine u _ _
  | timWrite =>
    exact issue_write_beside_engine s (slot_write_beside_engine (timingSlot s) _) fun u => set_pc_beside_engine u _
  | actSlotInit =>
    obtain ⟨k, hk⟩ := setup_index_slot hf (.inl hp)
    exact issue_write_beside_engine s (hk ▸ slot_write_beside_engine k _) fun u => set_pc_beside_engine u _
  | actSlotRead =>
    obtain ⟨k, hk⟩ := setup_index_slot hf (.inr (.inl hp))
    exact issue_read_beside_engine s (hk ▸ slot_read_beside_engine k) fun _ u => set_x_set_pc_beside_engine u _ _
  | actSlotWrite =>
    obtain ⟨k, hk⟩ := setup_index_slot hf (.inr (.inr hp))
    exact issue_write_beside_engine s (hk ▸ slot_write_beside_engine k _) setup_exit_beside_engine
  | xfCheck | xfClearStale | xfAddr | xfData | xfTrigger | xfPoll | xfCapture | xfClearDone =>
    rw [hp] at ht
    cases ht

/-- Settles O58: a phase commutes with leaving out the engine's part, and whether it fits and is no transfer phase is
told from the rest of the block. -/
theorem engineDoesNotDisturbOtherCommands : Obligations.EngineDoesNotDisturbOtherCommands := by
  intro s t
  refine ⟨engine_step_without_engine s, fun hs hp h => ?_, fun hs hp => ?_⟩
  · have hf : t.phaseFits = true := (congrArg State.phaseFits h).symm.trans hs.phase
    have hp' : t.pc.isTransfer = false := (congrArg (·.pc.isTransfer) h).symm.trans hp
    calc (phaseStep s).withoutEngine
        = phaseStep s.withoutEngine := (phase_step_beside_engine hs.phase hp).outside.symm
      _ = phaseStep t.withoutEngine := by rw [h]
      _ = (phaseStep t).withoutEngine := (phase_step_beside_engine hf hp').outside
  · obtain ⟨hpend, hdcs, hda, hdd⟩ := (phase_step_beside_engine hs.phase hp).transfer
    exact ⟨hpend, hdcs, hda, hdd⟩

end Sys2Proof.Machine
end

section
/-! PROOFS. 30_encoding.md: the decoder and the encoder are inverse (O4, O5), exactly what they leave out is refused or
faults (O8, O9), a harness's turn runs what is decoded (O7), the assembler (O10, O11), and the channel guard (O30). -/

namespace Sys2Proof.Machine

/-! ### Encoding, then decoding (R47, R48, R59) -/

/-- R49: a command's words decode to it, and the words after them are left. -/
theorem decode_command_of_encode {i : Instr} {ws : List Word} (he : encode i = .command ws) (rest : List Word) :
    decodeCommand (ws ++ rest) = .ok (i, rest) := by
  cases i with
  | activate | deactivate | configureClock | activatePins | deactivatePins | writeByte | readByte => cases he; rfl
  | setTiming d => cases he; cases d <;> rfl
  | _ => cases he

theorem is_command_iff_encode {i : Instr} (hw : i.wellFormed = true) :
    i.isCommand = true ↔ ∃ ws, encode i = .command ws := by
  constructor
  · intro hc
    obtain ⟨h, ops, he, -, -⟩ := (encoded_form i).1 hc
    exact ⟨h :: ops, he⟩
  · rintro ⟨ws, he⟩
    by_contra hc
    obtain ⟨r, hb, -⟩ := (encoded_form i).2 (Bool.eq_false_iff.mpr hc) hw
    cases he.symm.trans hb

/-- Settles O4: each format's encoding decodes to its row, and the format of the encoding tells commands from bus rows. -/
theorem decodeOfEncodeIsTheInstruction : Obligations.DecodeOfEncodeIsTheInstruction := fun _ hw =>
  ⟨fun _ rest he => decode_command_of_encode he rest, fun _ he => decode_bus_of_encode hw he,
    is_command_iff_encode hw⟩

/-! ### The header word as a number (R47, R50) -/

theorem header_opc_toNat (h : Word) : (headerOpc h).toNat = h.toNat % 256 := by
  simp [headerOpc, BitVec.extractLsb'_toNat]

theorem header_reserved_iff (h : Word) : h.extractLsb' 9 23 = 0#23 ↔ h.toNat < 512 := by
  have hh := h.isLt
  rw [← BitVec.toNat_inj, BitVec.extractLsb'_toNat, Nat.shiftRight_eq_div_pow, BitVec.toNat_ofNat]
  omega

/-- R50, of the header's value. -/
theorem header_legal_iff (h : Word) :
    headerLegal h = true ↔
      1 ≤ h.toNat % 256 ∧ h.toNat % 256 ≤ 8 ∧ h.toNat < 512 ∧ (h.getLsbD 8 = true → h.toNat % 256 = 6) := by
  have h6 : headerOpc h = 0x06#8 ↔ h.toNat % 256 = 6 := by
    rw [← BitVec.toNat_inj, header_opc_toNat]; rfl
  simp only [headerLegal, Bool.and_eq_true, Bool.or_eq_true, Bool.not_eq_true', decide_eq_true_eq, beq_iff_eq,
    header_opc_toNat, header_reserved_iff, h6, and_assoc]
  cases h.getLsbD 8 <;> simp

theorem header_toNat (opc : BitVec 8) (d : Dir) : (header opc d).toNat = dirCode d * 256 + opc.toNat := by
  revert opc
  cases d <;> decide

theorem header_dir_code (h : Word) : dirCode (headerDir h) = h.toNat / 256 % 2 := by
  have hbit : h.getLsbD 8 = decide (h.toNat / 256 % 2 = 1) := Nat.testBit_eq_decide_div_mod_eq
  simp only [headerDir, hbit, decide_eq_true_eq]
  split
  · next h1 => exact h1.symm
  · next h0 => rw [dirCode]; omega

/-- A legal header is the header of its opcode and direction, and only SET_TIMING's has a direction. -/
theorem legal_header {h : Word} (hl : headerLegal h = true) {n : Nat} (hn : (headerOpc h).toNat = n) :
    h = header (BitVec.ofNat 8 n) (headerDir h) ∧ (n ≠ 6 → headerDir h = .read) := by
  obtain ⟨-, -, hz, hd⟩ := (header_legal_iff h).mp hl
  subst hn
  refine ⟨BitVec.eq_of_toNat_eq ?_, fun h6 => ?_⟩
  · rw [header_toNat, header_dir_code, BitVec.ofNat_toNat, BitVec.setWidth_eq, header_opc_toNat]
    omega
  · rw [header_opc_toNat] at h6
    exact if_neg fun hw => h6 (hd hw)

/-! ### Decoding, then encoding -/

/-- The words that decode to a command are its encoding and the words left: its header is known from its opcode (and, for
SET_TIMING, its direction), and the operand words are taken whole. -/
theorem encode_of_decode_command {ws rest : List Word} {i : Instr} (h : decodeCommand ws = .ok (i, rest)) :
    ∃ own, encode i = .command own ∧ ws = own ++ rest := by
  unfold decodeCommand at h
  split at h
  · cases h
  · split at h
    case isFalse => cases h
    case isTrue hl =>
      split at h
      case h_9 => cases h
      case h_6 hn =>
        cases h
        obtain ⟨he, -⟩ := legal_header hl hn
        exact ⟨_, rfl, congrArg (· :: _) he⟩
      all_goals
        next hn =>
          cases h
          obtain ⟨he, hd⟩ := legal_header hl hn
          rw [hd (by decide)] at he
          exact ⟨_, rfl, congrArg (· :: _) he⟩

theorem command_well_formed {i : Instr} (hc : i.isCommand = true) : i.wellFormed = true := by
  cases i with
  | fselGpio => cases hc
  | _ => rfl

/-- R60, R103: only a pin of the pin set decodes. -/
theorem well_formed_of_decode_bus {r : BusReq} {i : Instr} (h : decodeBus r = .ok i) : i.wellFormed = true := by
  cases i with
  | fselGpio p v =>
    unfold decodeBus at h
    split at h
    case h_29 =>
      split at h
      · next hp => cases h; exact hp
      · cases h
    all_goals cases h
  | _ => rfl

/-- Settles O5: each format's decoded instruction is well-formed and encodes to what it was decoded from. -/
theorem encodeOfDecodeIsTheWords : Obligations.EncodeOfDecodeIsTheWords := by
  refine ⟨fun ws i rest h => ?_, fun r i h => ?_⟩
  · exact ⟨command_well_formed (decode_command_is_command h), encode_of_decode_command h⟩
  · obtain ⟨⟨desc, data⟩, he, hdesc, hdata⟩ := encode_of_decode_bus h
    refine ⟨well_formed_of_decode_bus h, _, he, hdesc, fun hw => ?_⟩
    cases hdesc
    cases hdata hw
    rfl

/-- Settles O3: the words are closed terms, and the decoder computes. -/
theorem specWordsDecode : Obligations.SpecWordsDecode := by
  unfold Obligations.SpecWordsDecode
  decide

/-! ### Illegal headers (R49, R50) -/

/-- A legal header's command decodes or is incomplete. -/
theorem decode_illegal_iff (h : Word) (ops : List Word) :
    decodeCommand (h :: ops) = .error .illegalCommand ↔ headerLegal h = false := by
  rw [decodeCommand.eq_def]
  dsimp only
  split
  · next hl =>
    refine iff_of_false ?_ (by simp [hl])
    split <;> exact nofun
  · next hl => exact iff_of_true rfl (Bool.eq_false_iff.mpr hl)

/-- The host's turn with an illegal header at the front of the port, which alone is used up (R49). -/
theorem step_host_illegal {s : State} {ts : List Turn} {h : Word} {ops : List Word} (hs : s.schedule = .host :: ts)
    (hport : s.port = h :: ops) (hd : decodeCommand (h :: ops) = .error .illegalCommand) (hf : s.fault = none) :
    step s = .next (admitIllegal ((s.setSchedule ts).setPort ops)) := by
  simp only [step, hs, hostStep, State.setSchedule_port, hport, hd]
  exact while_running_of_none _ hf

/-- Settles O8: the illegal headers are those that `headerLegal` leaves out, and the phase tells the refusal from the
fault. -/
theorem illegalHeadersAreRefused : Obligations.IllegalHeadersAreRefused := by
  refine ⟨fun h ops => ?_, fun s ts h ops ⟨hf, _⟩ hp hs hport hd => ?_, fun s ts h ops ⟨hf, _⟩ hp hs hport hd => ?_⟩
  · rw [decode_illegal_iff, Bool.eq_false_iff, ne_eq, header_legal_iff]
    cases h.getLsbD 8 <;>
      simp only [Bool.false_eq_true, false_and, true_and, false_implies, true_implies, and_true, or_false] <;> omega
  · rw [step_host_illegal hs hport hd hf]
    obtain ⟨hn, -⟩ | ⟨-, e⟩ := admit_illegal_cases ((s.setSchedule ts).setPort ops)
    · exact absurd hp hn
    · exact congrArg _ e
  · rw [step_host_illegal hs hport hd hf]
    obtain ⟨-, e⟩ | ⟨hi, -⟩ := admit_illegal_cases ((s.setSchedule ts).setPort ops)
    · exact congrArg _ e
    · exact absurd hi hp

/-! ### A harness's turn: listed and unlisted descriptors (R60, R96, R149) -/

/-- Settles O7: a harness's turn in IDLE and beside a command. -/
theorem busTurnRunsTheDecodedRow : Obligations.BusTurnRunsTheDecodedRow :=
  ⟨fun _ _ _ _ hs hp hd => step_bus hs hp hd, fun _ _ _ hs hp hf => step_bus_overlap hs hp hf⟩

/-- Whether a descriptor is listed does not depend on the data word beside it. -/
theorem decode_bus_isOk_data (d : BitVec 9) (v w : Word) : (decodeBus ⟨d, v⟩).isOk = (decodeBus ⟨d, w⟩).isOk := by
  unfold decodeBus
  dsimp only
  split
  case h_29 => split <;> rfl
  all_goals rfl

theorem decode_bus_error_iff (r : BusReq) : (∃ e, decodeBus r = .error e) ↔ (decodeBus r).isOk = false := by
  cases decodeBus r with
  | error e => exact iff_of_true ⟨e, rfl⟩ rfl
  | ok i => exact iff_of_false nofun nofun

/-- R60 over the 512 descriptors: the reserved targets, the reserved indices of SMI and CM, and of GPIO the reads and the
pins outside the set. -/
theorem unlisted_descriptor_iff (d : BitVec 9) :
    (decodeBus ⟨d, 0⟩).isOk = false ↔
      3 ≤ d.toNat / 32 % 8 ∨
      (d.toNat / 32 % 8 = 0 ∧
        (d.toNat % 32 = 1 ∨ d.toNat % 32 = 2 ∨ d.toNat % 32 = 3 ∨ d.toNat % 32 = 12 ∨ 16 ≤ d.toNat % 32)) ∨
      (d.toNat / 32 % 8 = 1 ∧ 2 ≤ d.toNat % 32) ∨
      (d.toNat / 32 % 8 = 2 ∧ (d.toNat < 256 ∨ 16 ≤ d.toNat % 32)) := by
  revert d
  decide

/-- A harness's turn in IDLE with an unlisted descriptor. -/
theorem step_bus_unlisted {s : State} {ts : List Turn} {r : BusReq} {e : DecodeError} (hs : s.schedule = .bus r :: ts)
    (hp : s.pc = .idle) (hd : decodeBus r = .error e) (hf : s.fault = none) :
    step s = .next ((s.setSchedule ts).takeFault .busUnlisted (some r)) := by
  simp [step, hs, busStep, hp, hd, driveBus, commit, while_running_of_none, hf]

/-- Settles O9: the data word plays no part in which descriptors are listed, and a fault's record is its whole effect. -/
theorem unlistedDescriptorsFault : Obligations.UnlistedDescriptorsFault := by
  refine ⟨fun r => ?_, fun s ts r e ⟨hf, _⟩ hp hs hd => ?_⟩
  · rw [decode_bus_error_iff, decode_bus_isOk_data r.desc r.data 0, unlisted_descriptor_iff]
  · rw [step_bus_unlisted hs hp hd hf, ← hp]
    rfl

/-! ### The assembler (R62, R63) -/

/-- R62: a number below 2^32 is the value of its operand word. -/
theorem parse_number_eq_some {cs : List Char} {w : Word} :
    parseNumber cs = some w ↔ numberValue cs = some w.toNat := by
  unfold parseNumber
  split
  · next n hn =>
    rw [hn]
    split
    · next hlt =>
      rw [Option.some_inj, Option.some_inj, ← BitVec.toNat_inj, BitVec.toNat_ofNat, Nat.mod_eq_of_lt hlt]
    · next hge =>
      refine iff_of_false nofun fun e => ?_
      cases e
      exact hge w.isLt
  · next hn =>
    rw [hn]
    exact iff_of_false nofun nofun

/-- Settles O10: the value of an operand word is below 2^32. -/
theorem numbersAreOperandWords : Obligations.NumbersAreOperandWords := by
  refine fun cs => ⟨fun w => parse_number_eq_some, fun n hn hbig => ?_⟩
  refine Option.eq_none_iff_forall_ne_some.mpr fun w hw => ?_
  cases hn.symm.trans (parse_number_eq_some.mp hw)
  exact absurd w.isLt hbig.not_gt

theorem assemble_transfer_parts (operands : List (List Char)) :
    assembleParts "transfer".toList operands = assembleTransfer operands := rfl

theorem assemble_transfer_form {operands : List (List Char)} {i : Instr} (h : assembleTransfer operands = some i) :
    (∃ ch addr data, operands = [ch, ['w'], addr, data]) ∨ (∃ ch addr, operands = [ch, ['r'], addr]) := by
  unfold assembleTransfer at h
  split at h
  · next ch dir addr data =>
    split at h
    · next hd => exact .inl ⟨ch, addr, data, by rw [hd]⟩
    · cases h
  · next ch dir addr =>
    split at h
    · next hd => exact .inr ⟨ch, addr, by rw [hd]⟩
    · cases h
  · cases h

/-- Settles O11: the two forms compute to those of `write_byte` and `read_byte`. -/
theorem transferIsWriteByteOrReadByte : Obligations.TransferIsWriteByteOrReadByte :=
  ⟨fun _ _ _ => ⟨rfl, rfl⟩, fun operands _ h => assemble_transfer_form ((assemble_transfer_parts operands).symm.trans h)⟩

/-! ### The channel guard (R51, R108, R114) -/

theorem channel_out_of_range {ch : Word} (h : 3 < ch.toNat) : channelOut ch = true := by
  simpa [channelOut, BitVec.lt_def] using h

/-- A command that ends in its accept step changes its latches and the response, and the controller stays in IDLE. -/
theorem accept_respond_in_idle {s : State} (hp : s.pc = .idle) (x : Latches) (st : Status) (v : Word) :
    ((s.setResponse none).setX x).respond st v = { s with x := x, response := some ⟨st, v⟩ } := by
  cases s
  cases hp
  rfl

/-- Settles O30: each accept step loads its latches and, the channel being out of range, responds. -/
theorem channelGuardTouchesNothing : Obligations.ChannelGuardTouchesNothing := by
  intro s dir ch a b c e ⟨hf, _⟩ hp hh hch
  have hch := channel_out_of_range hch
  refine ⟨(admitted_command_runs hf hp hh).trans ?_, (admitted_command_runs hf hp hh).trans ?_,
    (admitted_command_runs hf hp hh).trans ?_⟩
  · simp only [acceptSetTiming, hch, if_true]
    exact congrArg _ (accept_respond_in_idle hp _ _ _)
  · simp only [acceptTransfer, hch, if_true]
    exact congrArg _ (accept_respond_in_idle hp _ _ _)
  · simp only [acceptTransfer, hch, if_true]
    exact congrArg _ (accept_respond_in_idle hp _ _ _)

end Sys2Proof.Machine
end

section
/-! PROOFS. 40_register_block.md: each bus row is the commit of its register's rule, so a statement about a row is read
off the rule; and the engine's completion, with the poll that a completion ends. -/

namespace Sys2Proof.Machine

/-- R11, R41: with no fault so far, a bus row is one recorded transaction. -/
theorem exec_bus_row_running {i : Instr} {s : State} (hb : i.isCommand = false) (hf : s.fault = none) :
    exec i s = .next (commit (requestOf i) s (rowEffect i s)) := by
  rw [exec_bus_row i hb]
  exact while_running_of_none _ hf

/-- Row `i` is the write of `v` at descriptor `d` (R59). -/
structure WriteRow (i : Instr) (d : BitVec 9) (v : Word) : Prop where
  row : i.isCommand = false
  request : requestOf i = ⟨d, v⟩
  writes : descWrites d = true

section
variable {i : Instr} {d : BitVec 9} {v : Word} {s t : State}

theorem exec_write_done (h : WriteRow i d v) {w : Word} (hf : s.fault = none) (he : rowEffect i s = .done w t) :
    exec i s = .next (t.log (.write d v)) := by
  rw [exec_bus_row_running h.row hf, h.request, he, commit, busEvent, if_pos h.writes]

theorem exec_write_refused (h : WriteRow i d v) {x : Refusal} (hf : s.fault = none)
    (he : rowEffect i s = .refused x t) : exec i s = .next ((t.log (.refused d (some v) x)).markRefused x) := by
  rw [exec_bus_row_running h.row hf, h.request, he, commit, busData, if_pos h.writes]

theorem exec_write_fault (h : WriteRow i d v) {f : Fault} (hf : s.fault = none) (he : rowEffect i s = .fault f) :
    exec i s = .next { s with
      fault := some ⟨f, s.pc, some (d, some v)⟩, history := s.history ++ [.faulted d (some v) f] } := by
  rw [exec_bus_row_running h.row hf, h.request, he, commit, State.takeFault, busData, if_pos h.writes]
  rfl

end

/-! ### CS and the timing slots (R65 to R82) -/

theorem write_row_cs (v : Word) : WriteRow (.wrCs v) 0x100 v := ⟨rfl, rfl, by decide⟩

/-- Settles O14: the rule of both rows is a refusal. -/
theorem csAccessIsRefused : Obligations.CsAccessIsRefused :=
  fun _ v ⟨hf, _⟩ => ⟨exec_bus_row_running rfl hf, exec_write_refused (write_row_cs v) hf rfl⟩

/-- Settles O12: each of the eight rows is its slot's read. -/
theorem slotReadsReturnTheSlot : Obligations.SlotReadsReturnTheSlot := by
  intro s i d k ⟨hf, _⟩ hrow
  simp only [slotReadRows, List.mem_cons, Prod.mk.injEq, List.not_mem_nil, or_false] at hrow
  obtain ⟨rfl, rfl, rfl⟩ | ⟨rfl, rfl, rfl⟩ | ⟨rfl, rfl, rfl⟩ | ⟨rfl, rfl, rfl⟩ | ⟨rfl, rfl, rfl⟩ | ⟨rfl, rfl, rfl⟩ |
    ⟨rfl, rfl, rfl⟩ | ⟨rfl, rfl, rfl⟩ := hrow
  all_goals exact exec_bus_row_running rfl hf

/-- R68 to R82: each of the eight rows that write a slot does its slot's write. -/
theorem slot_write_row {v : Word} {i : Instr} {d : BitVec 9} {k : Fin 8} (hrow : (i, d, k) ∈ slotWriteRows v) :
    WriteRow i d v ∧ rowEffect i = slotWrite k v := by
  simp only [slotWriteRows, List.mem_cons, Prod.mk.injEq, List.not_mem_nil, or_false] at hrow
  obtain ⟨rfl, rfl, rfl⟩ | ⟨rfl, rfl, rfl⟩ | ⟨rfl, rfl, rfl⟩ | ⟨rfl, rfl, rfl⟩ | ⟨rfl, rfl, rfl⟩ | ⟨rfl, rfl, rfl⟩ |
    ⟨rfl, rfl, rfl⟩ | ⟨rfl, rfl, rfl⟩ := hrow
  all_goals exact ⟨⟨rfl, rfl, by decide⟩, rfl⟩

/-- Settles O13: the slots after the write are the vector with the one entry set. -/
theorem slotWritesStoreTheWord : Obligations.SlotWritesStoreTheWord := by
  intro s v i d k ⟨hf, _⟩ hrow
  obtain ⟨hw, he⟩ := slot_write_row hrow
  refine ⟨s.slot.set k v, exec_write_done hw hf (congrFun he s), Vector.getElem_set_self _, fun j hj => ?_⟩
  exact Vector.getElem_set_ne _ _ (Fin.val_ne_of_ne hj.symm)

/-! ### DCS (R83 to R86) -/

/-- Settles O15: the bits of the word that a DCS read returns. -/
theorem dcsReadReturnsTheStoredFlags : Obligations.DcsReadReturnsTheStoredFlags := by
  intro s ⟨hf, _⟩
  have hbit := dcs_read_word_bit s.dcs (Config.draw 1 s.draws) (Config.draw 28 s.draws)
  refine ⟨dcsValue s, exec_bus_row_running rfl hf, hbit 0, hbit 2, hbit 3, ?_, ?_⟩
  · ext j hj
    obtain rfl : j = 0 := by omega
    rw [BitVec.getElem_extractLsb']
    exact hbit 1
  · ext j hj
    rw [BitVec.getElem_extractLsb', dcsValue, hbit]
    simp only [show 4 + j ≠ 0 ∧ 4 + j ≠ 1 ∧ 4 + j ≠ 2 ∧ 4 + j ≠ 3 by omega, if_false, Nat.add_sub_cancel_left]
    exact BitVec.getLsbD_eq_getElem hj

theorem write_row_dcs (v : Word) : WriteRow (.wrDcs v) 0x10D v := ⟨rfl, rfl, by decide⟩

/-- What a DCS write stores, as R84 says it. -/
theorem dcs_store_eq (v : Word) (d : Dcs) :
    dcsStore v d = ⟨v.getLsbD 0, if v.getLsbD 2 then false else d.done, v.getLsbD 3⟩ := by
  rw [dcsStore]
  cases v.getLsbD 2 <;> simp

/-- Settles O16: of the cases of a DCS write, only the first has START beside a transfer in flight. -/
theorem startWhilePendingFaults : Obligations.StartWhilePendingFaults := by
  intro s v ⟨hf, _⟩ hstart hp
  obtain ⟨-, -, he⟩ | ⟨hn, -⟩ | ⟨-, hnone, -⟩ | ⟨-, hnone, -⟩ := dcs_write_cases v s
  · exact exec_write_fault (write_row_dcs v) hf he
  · exact absurd ⟨hstart, Option.isSome_iff_ne_none.mpr hp⟩ hn
  · exact absurd hnone hp
  · exact absurd hnone hp

/-- Settles O17: of the cases of a DCS write, the second alone neither faults nor has START with ENABLE. -/
theorem dcsWriteWithoutStartStoresTheFlags : Obligations.DcsWriteWithoutStartStoresTheFlags := by
  intro s v ⟨hf, _⟩ hno
  have hno : dcsStarts v = true → s.pending = none ∧ v.getLsbD 0 = false :=
    fun hs => hno.resolve_left fun h => Bool.false_ne_true (h.symm.trans hs)
  obtain ⟨hs, hp, -⟩ | ⟨-, -, he⟩ | ⟨hs, -, h0, -⟩ | ⟨hs, -, h0, -⟩ := dcs_write_cases v s
  · simp [(hno hs).1] at hp
  · rw [exec_write_done (write_row_dcs v) hf he, dcs_store_eq]
    rfl
  · exact absurd h0 (Bool.eq_false_iff.mp (hno hs).2)
  · exact absurd h0 (Bool.eq_false_iff.mp (hno hs).2)

/-- R84: the transfer that a word starts, in the direction of its bit 3, from slot `2*DA[9:8] + WRITE`. -/
theorem started_xfer_eq {s : State} {v : Word} {d : Dir} {k : Fin 8} (hd : d = if v.getLsbD 3 then .write else .read)
    (hk : k.val = 2 * (s.da.extractLsb' 8 2).toNat + if v.getLsbD 3 then 1 else 0) :
    startedXfer s (dcsDir (dcsStore v s.dcs)) =
      ⟨s.da.extractLsb' 8 2, s.da.extractLsb' 0 6, d, s.dd.extractLsb' 0 8, s.slot[k]⟩ := by
  have hdir : dcsDir (dcsStore v s.dcs) = d := hd.symm
  have hslot : slotNumber (daDev s.da) d = k := by
    refine Fin.ext (Eq.trans ?_ hk.symm)
    rw [hd, slotNumber]
    cases v.getLsbD 3 <;> rfl
  simp only [startedXfer, hdir, hslot]
  rfl

/-- Settles O18: the last two cases of a DCS write, told apart by the width of the sampled slot. -/
theorem dcsWriteWithStartSamplesTheTransfer : Obligations.DcsWriteWithStartSamplesTheTransfer := by
  intro s v d k ⟨hf, _⟩ hp hstart henable hd hk
  have hx := started_xfer_eq hd hk
  have hstore := dcs_store_eq v s.dcs
  rw [henable] at hstore
  obtain ⟨-, hsome, -⟩ | ⟨-, hn, -⟩ | ⟨-, -, -, hw, he⟩ | ⟨-, -, -, hw, he⟩ := dcs_write_cases v s
  · simp [hp] at hsome
  · exact absurd ⟨hstart, henable⟩ hn
  · rw [hx] at hw he
    rw [hstore] at he
    exact ⟨fun _ => exec_write_done (write_row_dcs v) hf he, fun hne => absurd hw hne⟩
  · rw [hx] at hw
    rw [hstore] at he
    exact ⟨fun h8 => absurd h8 hw, fun _ => exec_write_refused (write_row_dcs v) hf he⟩

/-! ### DA and DD (R87 to R90) -/

theorem write_row_da (v : Word) : WriteRow (.wrDa v) 0x10E v := ⟨rfl, rfl, by decide⟩

theorem write_row_dd (v : Word) : WriteRow (.wrDd v) 0x10F v := ⟨rfl, rfl, by decide⟩

/-- Settles O19: the four rows are the reads and writes of the two registers. -/
theorem daAndDdAreStorage : Obligations.DaAndDdAreStorage :=
  fun _ v ⟨hf, _⟩ => ⟨exec_bus_row_running rfl hf, exec_write_done (write_row_da v) hf rfl,
    exec_bus_row_running rfl hf, exec_write_done (write_row_dd v) hf rfl⟩

/-! ### The clock manager (R91 to R94) -/

/-- Settles O20: both rows commit a refusal. -/
theorem clockReadsAreRefused : Obligations.ClockReadsAreRefused :=
  fun _ ⟨hf, _⟩ => ⟨exec_bus_row_running rfl hf, exec_bus_row_running rfl hf⟩

/-- R27: the password check, on the word's value. -/
theorem cm_password_iff (v : Word) : cmPassword v = cmPasswd ↔ v.toNat / 2 ^ 24 = 0x5A := by
  rw [← BitVec.toNat_inj, cm_password_toNat]
  rfl

/-- R93, R94: a write with the password passes the check. -/
theorem password_not_refused {v : Word} (h : v.toNat / 2 ^ 24 = 0x5A) : ¬cmPassword v ≠ cmPasswd :=
  not_not.mpr ((cm_password_iff v).mpr h)

/-- R93: the source check, on the word's value. -/
theorem ctl_source_iff (v : Word) (src : BitVec 4) : v.extractLsb' 0 4 = src ↔ v.toNat % 16 = src.toNat := by
  rw [← BitVec.toNat_inj, BitVec.extractLsb'_toNat]
  rfl

theorem write_row_ctl (v : Word) : WriteRow (.wrCmCtl v) 0x120 v := ⟨rfl, rfl, by decide⟩

theorem write_row_div (v : Word) : WriteRow (.wrCmDiv v) 0x121 v := ⟨rfl, rfl, by decide⟩

/-- Settles O21: the three cases are the branches of the CTL write. -/
theorem ctlWriteIsPasswordGated : Obligations.CtlWriteIsPasswordGated := by
  intro s v ⟨hf, _⟩
  have hsource := ctl_source_iff v s.clk.src
  refine ⟨fun hpw => ?_, fun hpw hrun henab hsrc => ?_, fun hpw hok => ?_⟩
  · exact exec_write_done (write_row_ctl v) hf (if_pos (mt (cm_password_iff v).mp hpw))
  · exact exec_write_fault (write_row_ctl v) hf
      ((if_neg (password_not_refused hpw)).trans (if_pos ⟨hrun, henab, mt hsource.mp hsrc⟩))
  · have hno : ¬(s.clk.enab = true ∧ v.getLsbD 4 = true ∧ v.extractLsb' 0 4 ≠ s.clk.src) := by
      rintro ⟨hrun, henab, hsrc⟩
      obtain h | h | h := hok
      · exact Bool.false_ne_true (h.symm.trans hrun)
      · exact Bool.false_ne_true (h.symm.trans henab)
      · exact hsrc (hsource.mpr h)
    exact exec_write_done (write_row_ctl v) hf ((if_neg (password_not_refused hpw)).trans (if_neg hno))

/-- Settles O22: the three cases are the branches of the DIV write. -/
theorem divWriteNeedsTheClockStopped : Obligations.DivWriteNeedsTheClockStopped := by
  intro s v ⟨hf, _⟩
  refine ⟨fun hpw => ?_, fun hpw hrun => ?_, fun hpw hstop => ?_⟩
  · exact exec_write_done (write_row_div v) hf (if_pos (mt (cm_password_iff v).mp hpw))
  · exact exec_write_fault (write_row_div v) hf ((if_neg (password_not_refused hpw)).trans (if_pos hrun))
  · exact exec_write_done (write_row_div v) hf
      ((if_neg (password_not_refused hpw)).trans (if_neg (Bool.eq_false_iff.mp hstop)))

/-! ### The function-select request (R95) -/

theorem write_row_fsel (p : BitVec 5) (v : Word) : WriteRow (.fselGpio p v) (0x140#9 + p.setWidth 9) v := by
  have hdesc : ∀ q : BitVec 5, 0x140 ||| q.setWidth 9 = 0x140#9 + q.setWidth 9 ∧
      descWrites (0x140#9 + q.setWidth 9) = true := by decide
  exact ⟨rfl, congrArg (BusReq.mk · v) (hdesc p).1, (hdesc p).2⟩

/-- Settles O23: the pin set's bound tells the write from the fault. -/
theorem functionSelectSetsOnePin : Obligations.FunctionSelectSetsOnePin := by
  intro s p v ⟨hf, _⟩
  have hw := write_row_fsel p v
  refine ⟨fun hp => ⟨s.fsel.set p.toNat (fselCode v), ?_, Vector.getElem_set_self _, fun q hq => ?_⟩, fun hp => ?_⟩
  · exact exec_write_done hw hf (dif_pos hp)
  · exact Vector.getElem_set_ne _ _ hq.symm
  · exact exec_write_fault hw hf (dif_neg hp.not_gt)

/-! ### The engine (R97, R98) -/

/-- The engine's turn when a completion is enabled. -/
theorem engine_step_enabled {s : State} {x : Xfer} (hp : s.pending = some x) (hc : s.clockOK = true) :
    engineStep s = completeXfer s x := by
  simp only [engineStep, hp, hc, if_true]

/-- R97, the whole state after the completion of a read. -/
theorem complete_read_xfer {x : Xfer} (hdir : x.dir = .read) (s : State) :
    completeXfer s x = { s with
      pending := none, dd := Config.draw 24 s.draws ++ readByteOf s x, draws := s.draws + 1
      dcs := { s.dcs with done := true }
      history := s.history ++ [.device x.ch x.addr .read (readByteOf s x) s.driven] } := by
  simp only [completeXfer, hdir, completeRead, State.setDd, State.nextDraw, State.log, State.setDcs, State.setPending]

/-- R97, the whole state after the completion of a write. -/
theorem complete_write_xfer {x : Xfer} (hdir : x.dir = .write) (s : State) :
    completeXfer s x = { s with
      pending := none, dcs := { s.dcs with done := true }
      history := s.history ++ [.device x.ch x.addr .write x.wbyte s.driven] } := by
  simp only [completeXfer, hdir]
  rfl

@[simp] theorem read_byte_of_set_schedule (s : State) (ts : List Turn) (x : Xfer) :
    readByteOf (s.setSchedule ts) x = readByteOf s x := rfl

/-- R97 `driven`, pin by pin. -/
theorem driven_iff (s : State) : s.driven = true ↔ ∀ p : Fin 16, s.fsel[p] = 0b101 := by
  rw [State.driven, Vector.all_toList, Vector.all_eq_true, Fin.forall_iff]
  simp only [beq_iff_eq]
  rfl

/-- R98: a driven read from the loopback device delivers the latest driven write's byte. -/
theorem read_byte_of_loopback {s : State} {x : Xfer} {b : Byte} (hd : s.driven = true) (hl : s.cfg.device = .loopback)
    (hb : lastDrivenWrite x.ch x.addr s.history = some b) : readByteOf s x = b := by
  simp only [readByteOf, deviceRead, hd, hl, hb, if_true]

/-- Settles O42: the byte delivered is the low byte of DD, and using up the turn has no part in it. -/
theorem engineCompletesARead : Obligations.EngineCompletesARead := by
  intro s ts x hs hp hdir hc
  have hdd : (Config.draw 24 s.draws ++ readByteOf s x).setWidth 8 = readByteOf s x := BitVec.setWidth_append_eq_right
  refine ⟨Config.draw 24 s.draws ++ readByteOf s x, ?_, fun hd hl b hb => ?_, driven_iff s⟩
  · rw [step_engine hs, engine_step_enabled (s := s.setSchedule ts) hp hc, complete_read_xfer hdir,
      read_byte_of_set_schedule, hdd]
    rfl
  · rw [hdd, read_byte_of_loopback hd hl hb]

/-- Settles O43: the engine's turn completes the write when it is enabled, and changes nothing when it is not. -/
theorem engineCompletesAWrite : Obligations.EngineCompletesAWrite := by
  refine fun s ts hs => ⟨fun x hp hdir hc => ?_, fun hno => ?_⟩ <;> rw [step_engine hs]
  · rw [engine_step_enabled (s := s.setSchedule ts) hp hc, complete_write_xfer hdir]
    rfl
  · obtain ⟨x, hp, hc, -⟩ | ⟨-, he⟩ := engine_step_cases (s.setSchedule ts)
    · have hp : s.pending = some x := hp
      have hc : s.clockOK = true := hc
      simp [hp, hc] at hno
    · exact congrArg _ he

/-! #### The poll under a responding bus (R97, R120, R126) -/

/-- Nothing is scheduled and nothing is in flight, so the next turn is the controller's, at phase `p`. -/
structure AloneAt (s : State) (p : Phase) : Prop where
  turn : s.schedule = []
  pending : s.pending = none
  clean : s.fault = none
  pc : s.pc = p

theorem run_alone {s t : State} {p : Phase} (n : Nat) (h : AloneAt s p) (e : phaseStep s = t) :
    run (n + 1) s = run n t := by
  have hengine : s.engineEnabled = false := by simp [State.engineEnabled, h.pending]
  refine e ▸ run_succ n ?_
  simp only [step, h.turn, hengine, Bool.and_false, Bool.false_eq_true, if_false]
  exact while_running_of_none _ h.clean

/-- How a transfer ends: the block in IDLE with the response OK, nothing in flight and DONE clear. -/
def EndsOk (t : State) : Prop :=
  t.pc = .idle ∧ (∃ v, t.response = some ⟨.ok, v⟩) ∧ t.pending = none ∧ t.dcs.done = false

/-- R122: from XF_CLEAR_DONE two steps end the transfer. -/
theorem run_from_clear_done {s : State} (h : AloneAt s .xfClearDone) : ∃ t, run 2 s = .next t ∧ EndsOk t := by
  have hclear : phaseStep s = ((s.setDcs ⟨false, false, false⟩).log (.write 0x10D 0x4)).setPc .respond := by
    rw [phaseStep, h.pc]
    exact phase_xf_clear_done s
  refine ⟨_, (run_alone 1 h hclear).trans (run_alone 0 (p := .respond) ⟨h.turn, h.pending, h.clean, rfl⟩ rfl), ?_⟩
  exact ⟨rfl, ⟨_, rfl⟩, h.pending, rfl⟩

/-- R121: from XF_CAPTURE, three. -/
theorem run_from_capture {s : State} (h : AloneAt s .xfCapture) : ∃ t, run 3 s = .next t ∧ EndsOk t := by
  have hcapture : phaseStep s =
      ((s.log (.read 0x00F s.dd)).setX { s.x with rdata := ddByte s.dd }).setPc .xfClearDone := by
    rw [phaseStep, h.pc]
    exact phase_xf_capture s
  rw [run_alone 2 h hcapture]
  exact run_from_clear_done ⟨h.turn, h.pending, h.clean, rfl⟩

/-- R120: a poll that finds DONE, and what follows it. -/
theorem run_from_done_poll {s : State} (h : AloneAt s .xfPoll) (hd : s.dcs.done = true) :
    ∃ t, run (match s.x.dir with | .read => 4 | .write => 3) s = .next t ∧ EndsOk t := by
  have hpoll : phaseStep s = ((s.nextDraw.log (.read 0x00D (dcsValue s))).setX
      { s.x with polls := pollsNext s.x.polls }).setPc
        (match s.x.dir with | .read => .xfCapture | .write => .xfClearDone) := by
    rw [phaseStep, h.pc]
    dsimp only
    rw [phase_xf_poll, hd]
    rfl
  cases hdir : s.x.dir with
  | read =>
    rw [hdir] at hpoll
    rw [run_alone 3 h hpoll]
    exact run_from_capture ⟨h.turn, h.pending, h.clean, rfl⟩
  | write =>
    rw [hdir] at hpoll
    rw [run_alone 2 h hpoll]
    exact run_from_clear_done ⟨h.turn, h.pending, h.clean, rfl⟩

/-- R97: with nothing scheduled, a completion leaves the controller alone, with DONE set and its phase and latches as
they were. -/
theorem alone_of_complete_xfer {s : State} (hs : s.schedule = []) (hf : s.fault = none) (x : Xfer) :
    AloneAt (completeXfer s x) s.pc ∧ (completeXfer s x).dcs.done = true ∧ (completeXfer s x).x = s.x := by
  obtain ⟨dd, n, es, he, -⟩ := complete_xfer_precise s x
  rw [he]
  exact ⟨⟨hs, rfl, hf, rfl⟩, rfl, rfl⟩

/-- Settles O44: the first step is the completion, and the rest is the poll that finds DONE. -/
theorem respondingBusEndsThePoll : Obligations.RespondingBusEndsThePoll := by
  intro s x ⟨hf, _⟩ hpc hp hc hb hs
  have hstep : step s = .next (completeXfer s x) := by
    simp only [step, hs, hb, State.engineEnabled, hp, hc, Option.isSome_some, Bool.and_self, if_true,
      engine_step_enabled hp hc]
  obtain ⟨halone, hd, hx⟩ := alone_of_complete_xfer hs hf x
  obtain ⟨t, hrun, hidle, ⟨v, hv⟩, hnone, hdone⟩ := run_from_done_poll (hpc ▸ halone) hd
  refine ⟨t, v, (Eq.trans ?_ (run_succ _ hstep)).trans hrun, hidle, hv, hnone, hdone⟩
  rw [hx]
  cases s.x.dir <;> rfl

end Sys2Proof.Machine
end

section
/-! PROOFS. 41_clock_sequencer.md: the plain commands are accepted (O28), the run of CONFIGURE_CLOCK (O31), and what a
step can do while only the controller drives the bus: no command sequence faults on the clock or on an unlisted access
(O46), and the clock runs before a timing or transfer phase (O47). The controller rests, or it takes a phase, or it
accepts a command; of these the three phases of R99 alone touch the clock. -/

namespace Sys2Proof.Machine

/-! ### CONFIGURE_CLOCK (R99, R100) -/

/-- Settles O28: an admitted command's first state is its accept step's. -/
theorem plainCommandsAreAccepted : Obligations.PlainCommandsAreAccepted := fun _ ⟨hf, _⟩ hp hh =>
  ⟨admitted_command_runs hf hp hh, admitted_command_runs hf hp hh, admitted_command_runs hf hp hh,
    admitted_command_runs hf hp hh⟩

/-- R99: the clock sequence makes its three writes and leaves the clock at F_SMI. The first one stops the generator, so
the other two cannot fault, whatever the clock was. -/
theorem run_clock_sequence {s : State} {ts : List Turn} (n : Nat)
    (h : AtPhase s .clkDisable (.controller :: .controller :: ts)) :
    run (n + 3) s = run n (clkExit { s with
      schedule := ts, pc := .clkEnable, clk := ⟨true, 6, 4, 0⟩
      history := s.history ++ [.write 0x120 0x5A000000, .write 0x121 0x5A004000, .write 0x120 0x5A000016] }) := by
  calc run (n + 3) s
      = run (n + 2) _ := run_clk_disable (n + 2) h
    _ = run (n + 1) _ := run_clk_divide (n + 1) ⟨rfl, h.clean, rfl⟩ rfl
    _ = run n (clkExit _) := run_clk_enable n ⟨rfl, h.clean, rfl⟩ (.inl rfl)
    _ = run n (clkExit _) := by simp only [List.append_assoc, List.cons_append, List.nil_append]

/-- Settles O31: the host's turn accepts the command, the clock sequence exits to RESPOND, and RESPOND ends it. -/
theorem configureClockEndsWithTheClockRunning : Obligations.ConfigureClockEndsWithTheClockRunning := by
  intro s ws ts hclean hp hh hport hs
  have hd : decodeCommand s.port = .ok (.configureClock, ws) := by
    rw [hport]
    exact decode_command_of_encode (i := .configureClock) rfl ws
  obtain ⟨-, haccept, -⟩ := plainCommandsAreAccepted ((s.setSchedule (List.replicate 4 .controller ++ ts)).setPort ws)
    hclean hp hh
  refine ⟨_, ?_, rfl, rfl⟩
  calc run 5 s
      = run 4 _ := run_succ 4 ((step_host hs hd).trans haccept)
    _ = run 1 _ := run_clock_sequence (ts := .controller :: ts) 1 ⟨rfl, hclean.1, rfl⟩
    _ = run 0 _ := run_respond (ts := ts) 0 ⟨rfl, hclean.1, rfl⟩
    _ = .next _ := by rw [hp]; rfl

/-! ### A step while only the controller drives the bus (R44, R149) -/

/-- The controller and the clock stay as they are, and a new fault is one of admission (R135). -/
structure Rests (s t : State) : Prop where
  control : SameControl s t
  clk : t.clk = s.clk
  fault : t.fault = s.fault ∨
    ∃ f, t.fault = some f ∧ (f.reason = .overlap ∨ f.reason = .unavailable ∨ f.reason = .unpaired)

/-- The turn and the words that a step uses up are no part of the controller. -/
theorem rests_of_inputs {s t : State} (ts : List Turn) (ws : List Word)
    (h : Rests ((s.setSchedule ts).setPort ws) t) : Rests s t :=
  ⟨⟨h.control.pc, h.control.hstate, h.control.x, h.control.response⟩, h.clk, h.fault⟩

theorem rests_of_after_turn {s t : State} (h : Rests s.afterTurn t) : Rests s t :=
  rests_of_inputs s.schedule.tail s.port h

theorem rests_refl (s : State) : Rests s s := ⟨by constructor <;> rfl, rfl, .inl rfl⟩

theorem rests_take_fault (s : State) {f : Fault} (hf : f = .overlap ∨ f = .unavailable ∨ f = .unpaired) :
    Rests s (s.takeFault f none) :=
  ⟨block_move_control (.fault f none), take_fault_clk s f none, .inr ⟨_, take_fault_fault s f none, hf⟩⟩

/-- R97: a completion reaches neither the clock nor the fault mark. -/
theorem rests_engine_step (s : State) : Rests s (engineStep s) := by
  obtain ⟨x, -, -, e⟩ | ⟨-, e⟩ := engine_step_cases s
  · obtain ⟨dd, n, es, ex, -⟩ := complete_xfer_precise s x
    rw [e, ex]
    exact ⟨by constructor <;> rfl, rfl, .inl rfl⟩
  · rw [e]
    exact rests_refl s

/-- What a step does while no harness has the bus. -/
inductive QuietStep (s t : State) : Prop where
  | rests (h : Rests s t)
  | phase (h : t = phaseStep s.afterTurn)
  | accepts (i : Instr) (rest : List Word) (hp : s.pc = .idle) (h : t = acceptOf i (s.accepting rest))

theorem quiet_step {s t : State} (hq : s.quiet) (h : step s = .next t) : QuietStep s t := by
  cases step_kind h with
  | engine _ ht => exact .rests (rests_of_after_turn (ht ▸ rests_engine_step _))
  | phase _ _ ht => exact .phase ht
  | waits _ _ ht => exact .rests (rests_of_after_turn (ht ▸ rests_refl _))
  | illegal _ _ _ ht =>
    refine .rests (rests_of_inputs s.schedule.tail s.port.tail (ht ▸ ?_))
    obtain ⟨-, e⟩ | ⟨-, e⟩ := admit_illegal_cases (s.afterTurn.setPort s.port.tail)
    · exact e ▸ rests_take_fault _ (.inl rfl)
    · exact e ▸ ⟨by constructor <;> rfl, rfl, .inl rfl⟩
  | command i rest _ hd ht =>
    have hin := rests_of_inputs (s := s) (t := t) s.schedule.tail rest
    obtain ⟨-, ⟨-, rfl⟩ | ⟨-, -, -, rfl⟩ | ⟨-, -, -, rfl⟩ | ⟨hp, -, rfl⟩⟩ :=
      exec_command_next (decode_command_is_command hd) ht
    · exact .rests (hin (rests_take_fault _ (.inl rfl)))
    · exact .rests (hin (rests_take_fault _ (.inr (.inr rfl))))
    · exact .rests (hin (rests_take_fault _ (.inr (.inl rfl))))
    · exact .accepts i rest hp rfl
  | bus r _ hs hp _ _ => exact absurd hs (hq hp r)
  | unlisted r _ hs hp _ _ _ => exact absurd hs (hq hp r)
  | secondIssuer r _ _ _ ht => exact .rests (rests_of_after_turn (ht ▸ rests_take_fault _ (.inl rfl)))

/-! ### Outside the clock sequence nothing reaches the clock (R101) -/

/-- The phases of R99. -/
def Phase.isClock (p : Phase) : Bool := p == .clkDisable || p == .clkDivide || p == .clkEnable

/-- The clock stays as it is, the handle does not become ACTIVE, and the clock sequence is not entered. -/
structure LeavesClock (s t : State) : Prop where
  clk : t.clk = s.clk
  active : t.hstate = .active → s.hstate = .active
  pc : s.pc.isClock = false → t.pc.isClock = false

theorem leaves_clock_trans {s t u : State} (h : LeavesClock s t) (h' : LeavesClock t u) : LeavesClock s u :=
  ⟨h'.clk.trans h.clk, h.active ∘ h'.active, h'.pc ∘ h.pc⟩

theorem leaves_clock_set_pc (s : State) {p : Phase} (hp : p.isClock = false) : LeavesClock s (s.setPc p) :=
  ⟨rfl, id, fun _ => hp⟩

theorem leaves_clock_of_goes_on {s t : State} (h : GoesOn s t) (hp : s.pc.isClock = false → t.pc.isClock = false) :
    LeavesClock s t :=
  ⟨h.block.clk, h.hstate.symm.trans, hp⟩

/-! #### The transactions (R38, R59) -/

/-- A row that is neither of the clock manager's writes leaves the clock alone. -/
theorem commit_row_clk {i : Instr} (hc : ∀ v, i ≠ .wrCmCtl v) (hd : ∀ v, i ≠ .wrCmDiv v) (r : BusReq) (s : State) :
    (commit r s (rowEffect i s)).clk = s.clk := by
  cases i with
  | wrCmCtl v => exact absurd rfl (hc v)
  | wrCmDiv v => exact absurd rfl (hd v)
  | wrDcs v =>
    rw [rowEffect]
    obtain ⟨-, -, e⟩ | ⟨-, -, e⟩ | ⟨-, -, -, -, e⟩ | ⟨-, -, -, -, e⟩ := dcs_write_cases v s <;> rw [e] <;> rfl
  | fselGpio p v =>
    simp only [rowEffect, gpioSelect]
    split <;> rfl
  | _ => rfl

/-- A request to a target but the clock manager leaves the clock sequence alone. -/
theorem commit_leaves_clock {r : BusReq} (ht : (descTgt r.desc).toNat ≠ 1) (s : State) :
    LeavesClock s (commit r s (busEffect r s)) := by
  obtain ⟨hpc, hh, -, -⟩ := block_move_control (.transaction (s := s) r)
  refine ⟨?_, hh.symm.trans, fun hp => hpc ▸ hp⟩
  cases hd : decodeBus r with
  | error e =>
    simp only [busEffect, hd]
    rfl
  | ok i =>
    rw [bus_effect_of_decode hd]
    obtain ⟨own, he, hdesc, -⟩ := encode_of_decode_bus hd
    rw [← hdesc] at ht
    have hctl : (descTgt 0x120).toNat = 1 := by decide
    have hdiv : (descTgt 0x121).toNat = 1 := by decide
    refine commit_row_clk (fun v hi => ?_) (fun v hi => ?_) r s <;> subst hi <;> cases he
    · exact ht hctl
    · exact ht hdiv

theorem smi_read_target (i : BitVec 5) : (descTgt (smiRead i).desc).toNat ≠ 1 := by
  rw [smiRead, (decode_smi_fields i).1]
  decide

theorem smi_write_target (i : BitVec 5) (v : Word) : (descTgt (smiWrite i v).desc).toNat ≠ 1 := by
  obtain ⟨-, -, -, h, -, -⟩ := decode_smi_fields i
  rw [smiWrite, h]
  decide

theorem gpio_set_target (p : BitVec 5) (f : BitVec 3) : (descTgt (gpioSet p f).desc).toNat ≠ 1 := by
  show (descTgt (mkDesc true 2 p)).toNat ≠ 1
  revert p
  decide

/-! #### The phases and the accept steps -/

theorem issue_write_leaves_clock {r : BusReq} {after : State → State} (s : State) (ht : (descTgt r.desc).toNat ≠ 1)
    (ha : ∀ u, LeavesClock u (after u)) : LeavesClock s (issueWrite r after s) := by
  have hc := commit_leaves_clock ht s
  unfold issueWrite
  split
  · exact hc
  · exact leaves_clock_trans hc (ha _)

theorem issue_read_leaves_clock {r : BusReq} {after : Word → State → State} (s : State)
    (ht : (descTgt r.desc).toNat ≠ 1) (ha : ∀ v u, LeavesClock u (after v u)) :
    LeavesClock s (issueRead r after s) := by
  have hc := commit_leaves_clock ht s
  unfold issueRead
  generalize busEffect r s = e at hc ⊢
  cases e with
  | done v t => exact leaves_clock_trans hc (ha v _)
  | refused x t => exact hc
  | fault f => exact hc

theorem clk_exit_pc (s : State) : (clkExit s).pc.isClock = false := by
  unfold clkExit
  split <;> rfl

theorem pin_exit_leaves_clock (s : State) : LeavesClock s (pinExit s) := by
  refine leaves_clock_of_goes_on (pin_exit_goes_on s) fun hp => ?_
  unfold pinExit
  split_ifs
  · exact hp
  all_goals rfl

theorem setup_exit_leaves_clock (s : State) : LeavesClock s (setupExit s) := by
  refine leaves_clock_of_goes_on (setup_exit_goes_on s) fun _ => ?_
  unfold setupExit
  split <;> rfl

theorem check_exit_leaves_clock (r : Word) (s : State) :
    LeavesClock s (if dcsDone r then (s.setX { s.x with stale := true }).setPc .xfClearStale else s.setPc .xfAddr) := by
  refine leaves_clock_of_goes_on (check_exit_goes_on r s) fun _ => ?_
  split <;> rfl

theorem addr_exit_leaves_clock (s : State) :
    LeavesClock s (s.setPc (match s.x.dir with | .write => .xfData | .read => .xfTrigger)) :=
  leaves_clock_set_pc s (by cases s.x.dir <;> rfl)

theorem poll_exit_leaves_clock (d : Bool) (s : State) (x : Latches) : LeavesClock s (pollNext d (s.setX x)) := by
  refine leaves_clock_of_goes_on (poll_exit_goes_on d s x) fun _ => ?_
  obtain ⟨-, e⟩ | ⟨-, -, e⟩ | ⟨-, -, e⟩ := poll_next_cases d (s.setX x) <;> rw [e]
  · cases hd : (s.setX x).x.dir <;> rfl
  · rfl
  · rfl

/-- R101: a phase outside R99's leaves the clock sequence alone. -/
theorem phase_step_leaves_clock {s : State} (hp : s.pc.isClock = false) : LeavesClock s (phaseStep s) := by
  unfold phaseStep
  generalize s.pc = p at hp
  cases p with
  | clkDisable | clkDivide | clkEnable => cases hp
  | idle => exact ⟨rfl, id, id⟩
  | respond => exact ⟨rfl, id, fun _ => rfl⟩
  | deactRelease => exact ⟨rfl, nofun, fun _ => rfl⟩
  | pinSet => exact issue_write_leaves_clock s (gpio_set_target _ _) pin_exit_leaves_clock
  | actSlotWrite => exact issue_write_leaves_clock s (smi_write_target _ _) setup_exit_leaves_clock
  | xfAddr => exact issue_write_leaves_clock s (smi_write_target _ _) addr_exit_leaves_clock
  | timWrite | xfClearStale | xfData | xfTrigger | xfClearDone | actSlotInit =>
    exact issue_write_leaves_clock s (smi_write_target _ _) fun u => leaves_clock_set_pc u rfl
  | timRead | xfCapture | actSlotRead =>
    exact issue_read_leaves_clock s (smi_read_target _) fun _ _ => ⟨rfl, id, fun _ => rfl⟩
  | xfCheck => exact issue_read_leaves_clock s (smi_read_target _) check_exit_leaves_clock
  | xfPoll => exact issue_read_leaves_clock s (smi_read_target _) fun _ u => poll_exit_leaves_clock _ u _

/-- R133, R100: an accept step starts the clock sequence at its first phase, or leaves it alone. -/
theorem accept_of_leaves_clock (i : Instr) (s : State) :
    (acceptOf i s).pc = .clkDisable ∨ LeavesClock s (acceptOf i s) := by
  cases i with
  | activate =>
    simp only [acceptOf, acceptActivate]
    split
    · exact .inl rfl
    · exact .inr ⟨rfl, nofun, fun _ => rfl⟩
  | configureClock => exact .inl rfl
  | deactivate | activatePins | deactivatePins => exact .inr ⟨rfl, id, fun _ => rfl⟩
  | setTiming =>
    simp only [acceptOf, acceptSetTiming]
    split <;> exact .inr ⟨rfl, id, fun _ => rfl⟩
  | writeByte | readByte =>
    simp only [acceptOf, acceptTransfer]
    split <;> exact .inr ⟨rfl, id, fun _ => rfl⟩
  | _ => exact .inr ⟨rfl, id, id⟩

/-! ### The generator is stopped inside the clock sequence (R99, R151) -/

theorem clock_fits_outside {s : State} (hp : s.pc.isClock = false) : s.clockFits = true := by
  cases h : s.pc with
  | clkDisable | clkDivide | clkEnable => simp [h, Phase.isClock] at hp
  | _ => simp only [State.clockFits, h]

theorem clock_fits_at_disable {s : State} (hp : s.pc = .clkDisable) : s.clockFits = true := by
  simp only [State.clockFits, hp]

/-- At CLK_DIVIDE and CLK_ENABLE the generator is stopped. -/
theorem clock_fits_stopped {s : State} (hs : s.clockFits = true) (hp : s.pc = .clkDivide ∨ s.pc = .clkEnable) :
    s.clk.enab = false := by
  obtain hp | hp := hp <;> simpa [State.clockFits, hp] using hs

theorem phase_step_clock_fits {s : State} (hs : s.clockFits = true) : (phaseStep s).clockFits = true := by
  cases hp : s.pc with
  | clkDisable =>
    have e : phaseStep s = phaseClkDisable s := by simp only [phaseStep, hp]
    rw [e, phase_clk_disable]
    rfl
  | clkDivide =>
    have hstop := clock_fits_stopped hs (.inl hp)
    have e : phaseStep s = phaseClkDivide s := by simp only [phaseStep, hp]
    rw [e, phase_clk_divide s hstop]
    simp [State.clockFits, hstop]
  | clkEnable =>
    have e : phaseStep s = phaseClkEnable s := by simp only [phaseStep, hp]
    rw [e, phase_clk_enable s (.inl (clock_fits_stopped hs (.inr hp)))]
    exact clock_fits_outside (clk_exit_pc _)
  | _ => exact clock_fits_outside ((phase_step_leaves_clock (by rw [hp]; rfl)).pc (by rw [hp]; rfl))

theorem step_clock_fits {s t : State} (hs : s.clockFits = true) (hq : s.quiet) (h : step s = .next t) :
    t.clockFits = true := by
  cases quiet_step hq h with
  | rests h => simpa only [State.clockFits, h.control.pc, h.clk] using hs
  | phase h => exact h ▸ phase_step_clock_fits (s := s.afterTurn) hs
  | accepts i rest hp h =>
    subst h
    obtain h | h := accept_of_leaves_clock i (s.accepting rest)
    · exact clock_fits_at_disable h
    · have hidle : (s.accepting rest).pc.isClock = false := congrArg Phase.isClock hp
      exact clock_fits_outside (h.pc hidle)

/-! ### No phase faults on its own access (R99, R138, R151) -/

/-- R84: a DCS write that does not start beside a transfer in flight does not fault. -/
theorem dcs_write_faults {v : Word} {s : State} (h : dcsStarts v = false ∨ s.pending = none) :
    (dcsWrite v s).faults = false := by
  obtain ⟨hs, hp, -⟩ | ⟨-, -, e⟩ | ⟨-, -, -, -, e⟩ | ⟨-, -, -, -, e⟩ := dcs_write_cases v s
  · obtain h | h := h
    · exact absurd (h.symm.trans hs) Bool.false_ne_true
    · simp [h] at hp
  all_goals rw [e]; rfl

/-- A transaction that does not fault keeps the fault mark. -/
theorem commit_keeps_fault {r : BusReq} {s : State} (hr : (busEffect r s).faults = false) :
    (commit r s (busEffect r s)).fault = s.fault := by
  have hs := bus_effect_same r s
  generalize busEffect r s = e at hr hs ⊢
  cases e with
  | done v t => exact (hs t rfl).fault
  | refused x t => exact (hs t rfl).fault
  | fault f => cases hr

theorem issue_write_keeps_fault {r : BusReq} {after : State → State} {s : State}
    (hr : (busEffect r s).faults = false) (ha : ∀ u, GoesOn u (after u)) : (issueWrite r after s).fault = s.fault := by
  unfold issueWrite
  rw [hr]
  exact (ha _).block.fault.trans (commit_keeps_fault hr)

theorem issue_read_keeps_fault {r : BusReq} {after : Word → State → State} {s : State}
    (hr : (busEffect r s).faults = false) (ha : ∀ v u, GoesOn u (after v u)) :
    (issueRead r after s).fault = s.fault := by
  have hc := commit_keeps_fault hr
  unfold issueRead
  generalize busEffect r s = e at hc ⊢
  cases e with
  | done v t => exact (ha v _).block.fault.trans hc
  | refused x t => exact hc
  | fault f => exact hc

theorem slot_write_faults (k : Fin 8) (v : Word) (s : State) :
    (busEffect (smiWrite (BitVec.ofNat 5 (4 + k.val)) v) s).faults = false := by
  rw [bus_slot_write]; rfl

theorem slot_read_faults (k : Fin 8) (s : State) :
    (busEffect (smiRead (BitVec.ofNat 5 (4 + k.val))) s).faults = false := by
  rw [bus_slot_read]; rfl

/-- R138: with the generator stopped inside the clock sequence, and but for a trigger over a transfer in flight, no
phase's transaction faults. -/
theorem phase_step_keeps_fault {s : State} (hf : s.phaseFits = true) (hc : s.clockFits = true)
    (ht : s.pc = .xfTrigger → s.pending = none) : (phaseStep s).fault = s.fault := by
  unfold phaseStep
  cases hp : s.pc with
  | idle | deactRelease | respond => rfl
  | clkDisable =>
    exact issue_write_keeps_fault (by rw [bus_ctl_write, ctl_disable_effect]; rfl) fun u => goes_on_set_pc u _
  | clkDivide =>
    have hstop := clock_fits_stopped hc (.inl hp)
    exact issue_write_keeps_fault (by rw [bus_div_write, div_set_effect s hstop]; rfl) fun u => goes_on_set_pc u _
  | clkEnable =>
    have hstop := clock_fits_stopped hc (.inr hp)
    exact issue_write_keeps_fault (by rw [bus_ctl_write, ctl_enable_effect s (.inl hstop)]; rfl) clk_exit_goes_on
  | pinSet => exact issue_write_keeps_fault (by rw [bus_gpio_set]; rfl) pin_exit_goes_on
  | timRead => exact issue_read_keeps_fault (slot_read_faults (timingSlot s) s) fun _ u => goes_on_set_x_set_pc u _ _
  | timWrite => exact issue_write_keeps_fault (slot_write_faults (timingSlot s) _ s) fun u => goes_on_set_pc u _
  | xfCheck => exact issue_read_keeps_fault (by rw [bus_dcs_read]; rfl) check_exit_goes_on
  | xfPoll => exact issue_read_keeps_fault (by rw [bus_dcs_read]; rfl) fun _ u => poll_exit_goes_on _ u _
  | xfCapture => exact issue_read_keeps_fault (by rw [bus_dd_read]; rfl) fun _ u => goes_on_set_x_set_pc u _ _
  | xfAddr => exact issue_write_keeps_fault (by rw [bus_da_write]; rfl) fun u => goes_on_set_pc u _
  | xfData => exact issue_write_keeps_fault (by rw [bus_dd_write]; rfl) fun u => goes_on_set_pc u _
  | xfClearStale | xfClearDone =>
    refine issue_write_keeps_fault ?_ fun u => goes_on_set_pc u _
    rw [bus_dcs_write]
    exact dcs_write_faults (.inl (by decide))
  | xfTrigger =>
    refine issue_write_keeps_fault ?_ fun u => goes_on_set_pc u _
    rw [bus_dcs_write]
    exact dcs_write_faults (.inr (ht hp))
  | actSlotInit =>
    obtain ⟨k, hk⟩ := setup_index_slot hf (.inl hp)
    exact issue_write_keeps_fault (hk ▸ slot_write_faults k _ s) fun u => goes_on_set_pc u _
  | actSlotRead =>
    obtain ⟨k, hk⟩ := setup_index_slot hf (.inr (.inl hp))
    exact issue_read_keeps_fault (hk ▸ slot_read_faults k s) fun _ u => goes_on_set_x_set_pc u _ _
  | actSlotWrite =>
    obtain ⟨k, hk⟩ := setup_index_slot hf (.inr (.inr hp))
    exact issue_write_keeps_fault (hk ▸ slot_write_faults k _ s) setup_exit_goes_on

/-- R138: the one fault of a phase is a trigger over a transfer in flight (R129). -/
theorem phase_step_fault {s : State} {f : FaultRecord} (hf : s.phaseFits = true) (hc : s.clockFits = true)
    (hnone : s.fault = none) (h : (phaseStep s).fault = some f) :
    f.reason = .startWhilePending ∧ s.pc = .xfTrigger ∧ s.pending ≠ none := by
  by_cases ht : s.pc = .xfTrigger → s.pending = none
  · have hsame := (phase_step_keeps_fault hf hc ht).trans hnone
    cases h.symm.trans hsame
  · obtain ⟨hp, hpend⟩ := Classical.not_imp.mp ht
    have e : phaseStep s = phaseXfTrigger s := by simp only [phaseStep, hp]
    rw [e, phase_xf_trigger_pending s (Option.isSome_iff_ne_none.mpr hpend), take_fault_fault] at h
    cases h
    exact ⟨rfl, hp, hpend⟩

/-- Settles O46: a resting step faults by admission, an accept step not at all, and a phase at XF_TRIGGER alone. -/
theorem commandSequencesDoNotFaultOnTheirOwnAccesses : Obligations.CommandSequencesDoNotFaultOnTheirOwnAccesses := by
  intro s t hs hc hq hstep
  refine ⟨step_clock_fits hc hq hstep, fun f hnone hf => ?_⟩
  cases quiet_step hq hstep with
  | rests h =>
    obtain h | ⟨g, hg, hr⟩ := h.fault
    · cases hf.symm.trans (h.trans hnone)
    · cases hf.symm.trans hg
      exact hr.imp_right (·.imp_right .inl)
  | phase h => exact .inr (.inr (.inr (phase_step_fault (s := s.afterTurn) hs.phase hc hnone (h ▸ hf))))
  | accepts i rest _ h =>
    have hsame : t.fault = s.fault := h ▸ (accept_of_block i (s.accepting rest)).fault
    cases hf.symm.trans (hsame.trans hnone)

/-! ### The clock runs while the handle is ACTIVE (R101) -/

/-- Outside the clock sequence the clock runs while the handle is ACTIVE. -/
theorem clock_ready_outside {s : State} (hp : s.pc.isClock = false) :
    s.clockReady = true ↔ (s.hstate = .active → s.clockOK = true) := by
  cases h : s.pc with
  | clkDisable | clkDivide | clkEnable => simp [h, Phase.isClock] at hp
  | _ => by_cases ha : s.hstate = .active <;> simp [State.clockReady, h, ha]

theorem clock_ready_at_disable {s : State} (hp : s.pc = .clkDisable) : s.clockReady = true := by
  simp only [State.clockReady, hp]

theorem clock_ready_leaves_clock {s t : State} (h : LeavesClock s t) (hp : s.pc.isClock = false)
    (hs : s.clockReady = true) : t.clockReady = true := by
  refine (clock_ready_outside (h.pc hp)).mpr fun ha => ?_
  have hok := (clock_ready_outside hp).mp hs (h.active ha)
  rwa [State.clockOK, h.clk]

theorem clock_ready_of_same {s t : State} (h : SameControl s t) (hclk : t.clk = s.clk) (hs : s.clockReady = true) :
    t.clockReady = true := by
  simpa only [State.clockReady, State.clockOK, h.pc, h.hstate, hclk] using hs

/-- A clock phase's fault leaves the clock and the controller as they were. -/
theorem clock_ready_take_fault {s : State} (f : Fault) (b : Option BusReq) (hs : s.clockReady = true) :
    (s.takeFault f b).clockReady = true :=
  clock_ready_of_same (block_move_control (.fault f b)) (take_fault_clk s f b) hs

/-- R99: CLK_DIVIDE sets the divisors, CLK_ENABLE starts the clock with them. -/
theorem phase_step_clock_ready {s : State} (hs : s.clockReady = true) : (phaseStep s).clockReady = true := by
  cases hp : s.pc with
  | clkDisable =>
    have e : phaseStep s = phaseClkDisable s := by simp only [phaseStep, hp]
    rw [e, phase_clk_disable]
    rfl
  | clkDivide =>
    have e : phaseStep s = phaseClkDivide s := by simp only [phaseStep, hp]
    cases hrun : s.clk.enab with
    | false => rw [e, phase_clk_divide s hrun]; rfl
    | true => rw [e, phase_clk_divide_running s hrun]; exact clock_ready_take_fault _ _ hs
  | clkEnable =>
    have e : phaseStep s = phaseClkEnable s := by simp only [phaseStep, hp]
    by_cases hok : s.clk.enab = false ∨ s.clk.src = smiClkSrc
    · have hdiv : s.clk.divi = smiClkDivi ∧ s.clk.divf = smiClkDivf := by simpa [State.clockReady, hp] using hs
      rw [e, phase_clk_enable s hok]
      refine (clock_ready_outside (clk_exit_pc _)).mpr fun _ => ?_
      rw [State.clockOK, (clk_exit_goes_on _).block.clk]
      simp [ClockGen.ok, hdiv]
    · obtain ⟨hrun, hsrc⟩ := not_or.mp hok
      rw [e, phase_clk_enable_running s (Bool.not_eq_false _ ▸ hrun) hsrc]
      exact clock_ready_take_fault _ _ hs
  | _ =>
    have hout : s.pc.isClock = false := by rw [hp]; rfl
    exact clock_ready_leaves_clock (phase_step_leaves_clock hout) hout hs

theorem step_clock_ready {s t : State} (hs : s.clockReady = true) (hq : s.quiet) (h : step s = .next t) :
    t.clockReady = true := by
  cases quiet_step hq h with
  | rests h => exact clock_ready_of_same h.control h.clk hs
  | phase h => exact h ▸ phase_step_clock_ready (s := s.afterTurn) hs
  | accepts i rest hp h =>
    subst h
    obtain h | h := accept_of_leaves_clock i (s.accepting rest)
    · exact clock_ready_at_disable h
    · exact clock_ready_leaves_clock h (congrArg Phase.isClock hp) hs

theorem transfer_not_clock {p : Phase} (h : p.isTransfer = true) : p.isClock = false := by
  cases p with
  | xfCheck | xfClearStale | xfAddr | xfData | xfTrigger | xfPoll | xfCapture | xfClearDone => rfl
  | _ => cases h

/-- In the timing phases the handle is ACTIVE (R108, R135). -/
theorem phase_fits_timing {s : State} (h : s.phaseFits = true) (hp : s.pc = .timRead ∨ s.pc = .timWrite) :
    s.hstate = .active := by
  obtain hp | hp := hp <;> simp only [State.phaseFits, hp, Bool.and_eq_true, beq_iff_eq] at h <;> exact h.1.1

/-- Settles O47: a step keeps the clock ready, and the handle is ACTIVE in the timing and transfer phases. -/
theorem theClockRunsBeforeTimingAndTransfers : Obligations.TheClockRunsBeforeTimingAndTransfers := by
  refine ⟨fun _ _ => step_clock_ready, fun s hs hr hp => ?_⟩
  obtain hx | hx := hp
  · exact (clock_ready_outside (transfer_not_clock hx)).mp hr (phase_fits_transfer hs.phase hx).1
  · have hout : s.pc.isClock = false := by obtain h | h := hx <;> rw [h] <;> rfl
    exact (clock_ready_outside hout).mp hr (phase_fits_timing hs.phase hx)

end Sys2Proof.Machine
end

section
/-! PROOFS. 42_pin_mux.md: the pin loop of R104, and the runs of the two pin commands (O32). Induction is on the
requests still to make; the pins already visited have the code, so at the end all of them have, whatever they were. -/

namespace Sys2Proof.Machine

/-! ### Where PIN_SET goes (R104) -/

theorem pin_exit_next {s : State} (hk : s.x.k.toNat < 15) : pinExit s = s.setX { s.x with k := s.x.k + 1 } :=
  if_pos hk

theorem pin_exit_respond {s : State} (hk : s.x.k = 15) (ha : s.x.opc ≠ opcActivate) (hd : s.x.opc ≠ opcDeactivate) :
    pinExit s = s.setPc .respond := by
  simp [pinExit, hk, ha, hd]

/-! ### The loop -/

/-- The function-select request of pin `p` with the code `f` (R59, R95). -/
def pinRequest (f : BitVec 3) (p : Nat) : Event := .write (0x140#9 + BitVec.ofNat 9 p) (f.setWidth 32)

theorem pin_requests_eq (f : BitVec 3) : pinRequests f = (List.range' 0 16).map (pinRequest f) := rfl

theorem pin_request_latch (f : BitVec 3) (k : BitVec 4) :
    Event.write (0x140 ||| k.setWidth 9) (f.setWidth 32) = pinRequest f k.toNat := by
  have hdesc : ∀ k : BitVec 4, 0x140 ||| k.setWidth 9 = 0x140#9 + BitVec.ofNat 9 k.toNat := by decide
  rw [pinRequest, hdesc]

/-- The pins that the loop has visited have its code. -/
def PinsBelow (s : State) : Prop := ∀ (i : Nat) (hi : i < 16), i < s.x.k.toNat → s.fsel[i] = s.x.fsel

/-- A request adds its own pin to the visited ones. -/
theorem pins_visited {s : State} (hs : PinsBelow s) (i : Nat) (hi : i < 16) (hk : i ≤ s.x.k.toNat) :
    (s.fsel.set s.x.k.toNat s.x.fsel s.x.k.isLt)[i] = s.x.fsel := by
  obtain heq | hlt := Nat.eq_or_lt_of_le hk
  · subst heq; exact Vector.getElem_set_self _
  · rw [Vector.getElem_set_ne _ _ hlt.ne']; exact hs i hi hlt

/-- The last request leaves every pin with the code. -/
theorem pins_all {s : State} (hs : PinsBelow s) (hk : s.x.k = 15) :
    s.fsel.set s.x.k.toNat s.x.fsel s.x.k.isLt = Vector.replicate 16 s.x.fsel := by
  ext1 i hi
  rw [pins_visited hs i hi (by rw [hk]; exact Nat.le_of_lt_succ hi), Vector.getElem_replicate]

/-- R104, from pin `x[k]` on: one request for each pin that is left. -/
theorem run_pins_from {ts : List Turn} (n j : Nat) {s : State}
    (h : AtPhase s .pinSet (List.replicate j .controller ++ ts)) (hj : s.x.k.toNat + j = 15) (hs : PinsBelow s) :
    run (n + (j + 1)) s = run n (pinExit { s with
      schedule := ts, x := { s.x with k := 15 }, fsel := Vector.replicate 16 s.x.fsel
      history := s.history ++ (List.range' s.x.k.toNat (j + 1)).map (pinRequest s.x.fsel) }) := by
  induction j generalizing s with
  | zero =>
    have hk : s.x.k = 15 := BitVec.eq_of_toNat_eq hj
    rw [run_pin_set n h, pins_all hs hk, pin_request_latch, ← hk]
    rfl
  | succ j ih =>
    have hlt : s.x.k.toNat < 15 := by omega
    have hsucc : (s.x.k + 1).toNat = s.x.k.toNat + 1 := by
      rw [BitVec.toNat_add_of_lt (by simp; omega)]; rfl
    calc run (n + (j + 1 + 1)) s
        = run (n + (j + 1)) (pinExit _) := run_pin_set (n + (j + 1)) h
      _ = run (n + (j + 1)) _ := congrArg (run _) (pin_exit_next hlt)
      _ = run n (pinExit _) := ih ⟨rfl, h.clean, h.pc⟩ (by simp only [State.setX_x, hsucc]; omega) fun i hi hk =>
        pins_visited hs i hi (Nat.le_of_lt_succ (hk.trans_eq hsucc))
      _ = run n (pinExit _) := by
        simp only [State.setX, hsucc, pin_request_latch, List.range'_succ (s := s.x.k.toNat), List.map_cons,
          List.append_assoc, List.cons_append, List.nil_append]

/-- R104, the whole loop: the sixteen requests in ascending order, and every pin with the code. -/
theorem run_pin_loop {s : State} {ts : List Turn} (n : Nat)
    (h : AtPhase s .pinSet (List.replicate 15 .controller ++ ts)) (hk : s.x.k = 0) :
    run (n + 16) s = run n (pinExit { s with
      schedule := ts, x := { s.x with k := 15 }, fsel := Vector.replicate 16 s.x.fsel
      history := s.history ++ pinRequests s.x.fsel }) := by
  have hnone : PinsBelow s := fun i _ hi => by simp [hk] at hi
  rw [run_pins_from n 15 h (by rw [hk]; rfl) hnone, hk]
  rfl

/-! ### The pin commands (R105, R106) -/

/-- A pin command by its opcode, and the code that it writes: FSEL_SMI or FSEL_INPUT. -/
def IsPinCommand (opc : BitVec 8) (f : BitVec 3) : Prop := (opc = 0x04 ∧ f = 0b101) ∨ (opc = 0x05 ∧ f = 0b000)

/-- The header alone is the command, and its accept step starts the loop at pin 0. -/
theorem pin_command_accepted {opc : BitVec 8} {f : BitVec 3} (h : IsPinCommand opc f) {s : State} (hc : s.Clean)
    (hp : s.pc = .idle) (hh : s.hstate = .active) (ws : List Word) :
    ∃ i, decodeCommand (opc.setWidth 32 :: ws) = .ok (i, ws) ∧ exec i s = .next { s with
      x := { s.x with opc := opc, k := 0, fsel := f }, pc := .pinSet, response := none } := by
  obtain ⟨-, -, hactivate, hdeactivate⟩ := plainCommandsAreAccepted s hc hp hh
  obtain ⟨rfl, rfl⟩ | ⟨rfl, rfl⟩ := h
  · exact ⟨.activatePins, decode_command_of_encode (i := .activatePins) rfl ws, hactivate⟩
  · exact ⟨.deactivatePins, decode_command_of_encode (i := .deactivatePins) rfl ws, hdeactivate⟩

/-- A pin command's loop exits to RESPOND, and its response value is 0. -/
theorem pin_command_ends {opc : BitVec 8} {f : BitVec 3} (h : IsPinCommand opc f) :
    opc ≠ opcActivate ∧ opc ≠ opcDeactivate ∧ ∀ x : Latches, x.opc = opc → responseValue x = 0 := by
  obtain ⟨rfl, -⟩ | ⟨rfl, -⟩ := h
  all_goals
    refine ⟨by decide, by decide, fun x hx => ?_⟩
    simp [responseValue, hx, opcActivate, opcWriteByte, opcReadByte]

/-- Settles O32: the host's turn accepts the command, the loop makes its sixteen requests, and RESPOND ends it. -/
theorem pinCommandsSetEveryPin : Obligations.PinCommandsSetEveryPin := by
  intro s ws ts opc f hclean hp hh hcmd hport hs
  obtain ⟨i, hd, haccept⟩ := pin_command_accepted hcmd
    (s := (s.setSchedule (List.replicate 17 .controller ++ ts)).setPort ws) hclean hp hh ws
  obtain ⟨hact, hdeact, hvalue⟩ := pin_command_ends hcmd
  calc run 18 s
      = run 17 _ := run_succ 17 ((step_host hs (hport ▸ hd)).trans haccept)
    _ = run 1 (pinExit _) := run_pin_loop (ts := .controller :: ts) 1 ⟨rfl, hclean.1, rfl⟩ rfl
    _ = run 1 _ := congrArg (run 1) (pin_exit_respond rfl hact hdeact)
    _ = run 0 _ := run_respond (ts := ts) 0 ⟨rfl, hclean.1, rfl⟩
    _ = .next _ := by rw [hvalue _ rfl, hp]; rfl

end Sys2Proof.Machine
end

section
/-! PROOFS. 43_timing_encoder.md: the parts of the slot word of R53, and the run of SET_TIMING (O35). Each count lies in
a field of its own, so every part of the new word comes from the old word or from one operand alone. -/

namespace Sys2Proof.Machine

/-! ### The parts of a slot word (R21, R52, R53) -/

/-- The bits outside TIMING_MASK (WIDTH, MODE, PACEALL and the reserved bits), and the four counts. -/
structure SlotParts where
  static : Word
  setup  : BitVec 6
  strobe : BitVec 7
  hold   : BitVec 6
  pace   : BitVec 7
deriving DecidableEq

/-- R21: the fields of a slot word, with the static ones in place. -/
def slotParts (w : Word) : SlotParts :=
  ⟨w &&& ~~~timingMask, slotSetup w, slotStrobe w, slotHold w, slotPace w⟩

def SlotParts.or (p q : SlotParts) : SlotParts :=
  ⟨p.static ||| q.static, p.setup ||| q.setup, p.strobe ||| q.strobe, p.hold ||| q.hold, p.pace ||| q.pace⟩

theorem slot_parts_or (v w : Word) : slotParts (v ||| w) = (slotParts v).or (slotParts w) := by
  have hstatic : (v ||| w) &&& ~~~timingMask = v &&& ~~~timingMask ||| w &&& ~~~timingMask :=
    BitVec.and_or_distrib_right
  simp only [slotParts, SlotParts.or, hstatic, slotSetup, slotStrobe, slotHold, slotPace, BitVec.extractLsb'_or]

theorem slot_parts_setup (a : BitVec 6) : slotParts (a.setWidth 32 <<< 24) = ⟨0, a, 0, 0, 0⟩ := by
  revert a; decide

theorem slot_parts_strobe (a : BitVec 7) : slotParts (a.setWidth 32) = ⟨0, 0, a, 0, 0⟩ := by
  revert a; decide

theorem slot_parts_hold (a : BitVec 6) : slotParts (a.setWidth 32 <<< 16) = ⟨0, 0, 0, a, 0⟩ := by
  revert a; decide

theorem slot_parts_pace (a : BitVec 7) : slotParts (a.setWidth 32 <<< 8) = ⟨0, 0, 0, 0, a⟩ := by
  revert a; decide

/-- R52: each count is its operand modulo the field's width, and no count reaches a static bit. -/
theorem slot_parts_counts_word (setup strobe hold pace : Word) :
    slotParts (countsWord setup strobe hold pace) =
      ⟨0, setup.setWidth 6, strobe.setWidth 7, hold.setWidth 6, pace.setWidth 7⟩ := by
  simp [countsWord, slot_parts_or, slot_parts_setup, slot_parts_strobe, slot_parts_hold, slot_parts_pace, SlotParts.or]

/-- R53: masking with `~TIMING_MASK` leaves the static bits alone and empties the counts. -/
theorem slot_parts_masked (w : Word) : slotParts (w &&& ~~~timingMask) = ⟨w &&& ~~~timingMask, 0, 0, 0, 0⟩ := by
  have hcounts : slotParts (~~~timingMask) = ⟨~~~timingMask, 0, 0, 0, 0⟩ := by decide
  simp only [slotParts, SlotParts.mk.injEq, slotSetup, slotStrobe, slotHold, slotPace] at hcounts
  obtain ⟨hstatic, hsetup, hstrobe, hhold, hpace⟩ := hcounts
  simp only [slotParts, slotSetup, slotStrobe, slotHold, slotPace, BitVec.extractLsb'_and, BitVec.and_assoc, hstatic,
    hsetup, hstrobe, hhold, hpace, BitVec.ofNat_eq_ofNat, BitVec.and_zero]

/-- R53: the static bits are the old word's, the counts are the operands'. -/
theorem slot_parts_slot_word (old setup strobe hold pace : Word) :
    slotParts (slotWord old (countsWord setup strobe hold pace)) =
      ⟨old &&& ~~~timingMask, setup.setWidth 6, strobe.setWidth 7, hold.setWidth 6, pace.setWidth 7⟩ := by
  simp [slotWord, slot_parts_or, slot_parts_masked, slot_parts_counts_word, SlotParts.or]

/-! ### SET_TIMING (R108) -/

/-- R20, R51: the slot number of a channel in range, by the channel operand's own value. -/
theorem slot_number_of_channel {ch : Word} {d : Dir} {k : Fin 8} (hch : ch.toNat ≤ 3)
    (hk : k.val = 2 * ch.toNat + dirCode d) : slotNumber (channelOf ch) d = k := by
  have hchannel : (channelOf ch).toNat = ch.toNat := by
    rw [channelOf, BitVec.extractLsb'_toNat, Nat.shiftRight_zero, Nat.mod_eq_of_lt (Nat.lt_succ_of_le hch)]
  exact Fin.ext (by simp only [slotNumber, hchannel, hk])

/-- R47, R48: SET_TIMING's header and five operands at the front of the port. -/
theorem decode_set_timing (d : Dir) (ch setup strobe hold pace : Word) (ws : List Word) :
    decodeCommand (header 0x06 d :: ch :: setup :: strobe :: hold :: pace :: ws) =
      .ok (.setTiming d ch setup strobe hold pace, ws) :=
  decode_command_of_encode (i := .setTiming d ch setup strobe hold pace) rfl ws

/-- The word that SET_TIMING leaves in its slot (R53, R108). -/
def timingWord (s : State) : Word := slotWord s.slot[timingSlot s] (countsWord s.x.op1 s.x.op2 s.x.op3 s.x.op4)

/-- R108, the two timing phases: the slot is read into `tmp`, and its new word is written back. -/
theorem run_timing_phases {s : State} {ts : List Turn} (n : Nat) (h : AtPhase s .timRead (.controller :: ts)) :
    run (n + 2) s = run n { s with
      schedule := ts, pc := .respond, x := { s.x with tmp := s.slot[timingSlot s] }
      slot := s.slot.set (timingSlot s) (timingWord s)
      history := s.history ++ [.read (0x004#9 + BitVec.ofNat 9 (timingSlot s)) s.slot[timingSlot s],
        .write (0x104#9 + BitVec.ofNat 9 (timingSlot s)) (timingWord s)] } := by
  calc run (n + 2) s
      = run (n + 1) _ := run_tim_read (n + 1) h
    _ = run n _ := run_tim_write n ⟨rfl, h.clean, rfl⟩
    _ = run n _ := by simp only [List.append_assoc, List.cons_append, List.nil_append]; rfl

/-- Settles O35: the host's turn accepts the command, the two timing phases read and write the slot, and RESPOND ends it;
the parts of the written word are those of R53. -/
theorem setTimingKeepsTheStaticFlags : Obligations.SetTimingKeepsTheStaticFlags := by
  intro s ws ts dir ch setup strobe hold pace k hclean hp hh hch hk hport hs
  obtain rfl : slotNumber (channelOf ch) dir = k := slot_number_of_channel hch (hk.trans (by cases dir <;> rfl))
  have hd : decodeCommand s.port = .ok (.setTiming dir ch setup strobe hold pace, ws) := by
    rw [hport, ← decode_set_timing]
    cases dir <;> rfl
  obtain ⟨haccept, -, -⟩ := operandCommandsAreAccepted
    ((s.setSchedule (List.replicate 3 .controller ++ ts)).setPort ws) dir ch setup strobe hold pace hclean hp hh hch
  have hparts := slot_parts_slot_word s.slot[slotNumber (channelOf ch) dir] setup strobe hold pace
  simp only [slotParts, SlotParts.mk.injEq] at hparts
  obtain ⟨hstatic, hsetup, hstrobe, hhold, hpace⟩ := hparts
  refine ⟨_, ?_, hstatic, hsetup, hstrobe, hhold, hpace⟩
  calc run 4 s
      = run 3 _ := run_succ 3 ((step_host hs hd).trans haccept)
    _ = run 1 _ := run_timing_phases (ts := .controller :: ts) 1 ⟨rfl, hclean.1, rfl⟩
    _ = run 0 _ := run_respond (ts := ts) 0 ⟨rfl, hclean.1, rfl⟩
    _ = .next _ := by rw [hp]; rfl

end Sys2Proof.Machine
end

section
/-! PROOFS. 44_direct_transfer.md: where a transfer may be in flight (O48), the trigger over an old one (O41), the poll
loop without completion (O39, O40), and the runs of WRITE_BYTE and READ_BYTE (O36, O37), which against the loopback
device give back the byte written (O38). -/

namespace Sys2Proof.Machine

/-! ### What `State.transferFits` says of each phase (R115 to R122) -/

theorem transfer_fits_of_same {s t : State} (hc : SameControl s t) (ht : SameTransfer s t)
    (hs : s.transferFits = true) : t.transferFits = true := by
  simpa only [State.transferFits, hc.pc, hc.x, ht.pending, ht.dcs] using hs

/-- With nothing in flight and DONE clear every phase fits. -/
theorem transfer_fits_of_drained {s : State} (hp : s.pending = none) (hd : s.dcs.done = false) :
    s.transferFits = true := by
  cases h : s.pc <;> simp [State.transferFits, h, hp, hd]

/-- Only a poll has a transfer in flight. -/
theorem transfer_fits_pending {s : State} (hs : s.transferFits = true) (hp : s.pc ≠ .xfPoll) : s.pending = none := by
  cases h : s.pc with
  | xfPoll => exact absurd h hp
  | xfAddr | xfData | xfTrigger | respond =>
    simp only [State.transferFits, h, Bool.and_eq_true] at hs
    simpa using hs.1
  | _ => simpa [State.transferFits, h] using hs

/-- DONE is clear from XF_ADDR to the trigger. -/
theorem transfer_fits_done_clear {s : State} (hs : s.transferFits = true)
    (hp : s.pc = .xfAddr ∨ s.pc = .xfData ∨ s.pc = .xfTrigger) : s.dcs.done = false := by
  obtain h | h | h := hp <;>
    simp only [State.transferFits, h, Bool.and_eq_true, Bool.not_eq_true'] at hs <;> exact hs.2

/-- A poll that finds DONE has nothing in flight (R126). -/
theorem transfer_fits_poll {s : State} (hs : s.transferFits = true) (hp : s.pc = .xfPoll) (hd : s.dcs.done = true) :
    s.pending = none := by
  simpa [State.transferFits, hp, hd] using hs

/-- A transfer that is about to answer OK has DONE clear. -/
theorem transfer_fits_respond {s : State} (hs : s.transferFits = true) (hp : s.pc = .respond)
    (hx : transferLatches s.x = true) : s.dcs.done = false := by
  simp only [State.transferFits, hp, hx, Bool.and_eq_true] at hs
  simpa using hs.2

/-! ### Outside the transfers (R99, R104, R108, R132) -/

/-- The command in progress is no transfer. -/
structure NoTransfer (s : State) : Prop where
  phase : s.pc.isTransfer = false
  latches : transferLatches s.x = false

theorem transfer_fits_of_no_transfer {s : State} (h : NoTransfer s) (hp : s.pending = none) :
    s.transferFits = true := by
  have hpc := h.phase
  cases hs : s.pc with
  | xfCheck | xfClearStale | xfAddr | xfData | xfTrigger | xfPoll | xfCapture | xfClearDone =>
    rw [hs] at hpc
    cases hpc
  | _ => simp [State.transferFits, hs, hp, h.latches]

theorem no_transfer_of_same_control {s t : State} (hc : SameControl s t) (h : NoTransfer s) : NoTransfer t :=
  ⟨hc.pc ▸ h.phase, hc.x ▸ h.latches⟩

theorem no_transfer_set_pc {s : State} (h : NoTransfer s) {p : Phase} (hp : p.isTransfer = false) :
    NoTransfer (s.setPc p) := ⟨hp, h.latches⟩

theorem issue_write_no_transfer (r : BusReq) {after : State → State} {s : State} (hs : NoTransfer s)
    (ha : ∀ u, NoTransfer u → NoTransfer (after u)) : NoTransfer (issueWrite r after s) := by
  have hu := no_transfer_of_same_control (block_move_control (.transaction (s := s) r)) hs
  unfold issueWrite
  split
  · exact hu
  · exact ha _ hu

theorem issue_read_no_transfer (r : BusReq) {after : Word → State → State} {s : State} (hs : NoTransfer s)
    (ha : ∀ v u, NoTransfer u → NoTransfer (after v u)) : NoTransfer (issueRead r after s) := by
  have hu := no_transfer_of_same_control (block_move_control (.transaction (s := s) r)) hs
  unfold issueRead
  generalize busEffect r s = e at hu ⊢
  cases e with
  | done v t => exact ha v _ hu
  | refused x t => exact hu
  | fault f => exact hu

theorem clk_exit_no_transfer {s : State} (h : NoTransfer s) : NoTransfer (clkExit s) := by
  unfold clkExit
  split <;> exact ⟨rfl, h.latches⟩

theorem pin_exit_no_transfer {s : State} (h : NoTransfer s) : NoTransfer (pinExit s) := by
  unfold pinExit
  split_ifs
  · exact ⟨h.phase, h.latches⟩
  all_goals exact ⟨rfl, h.latches⟩

theorem setup_exit_no_transfer {s : State} (h : NoTransfer s) : NoTransfer (setupExit s) := by
  unfold setupExit
  split <;> exact ⟨rfl, h.latches⟩

/-- No phase enters the transfer phases: a transfer begins with its accept step (R114). -/
theorem phase_step_no_transfer {s : State} (h : NoTransfer s) : NoTransfer (phaseStep s) := by
  unfold phaseStep
  cases hp : s.pc with
  | idle => exact h
  | respond | deactRelease => exact ⟨rfl, h.latches⟩
  | clkEnable => exact issue_write_no_transfer _ h fun _ => clk_exit_no_transfer
  | pinSet => exact issue_write_no_transfer _ h fun _ => pin_exit_no_transfer
  | actSlotWrite => exact issue_write_no_transfer _ h fun _ => setup_exit_no_transfer
  | clkDisable | clkDivide | timWrite | actSlotInit =>
    exact issue_write_no_transfer _ h fun _ hu => no_transfer_set_pc hu rfl
  | timRead | actSlotRead => exact issue_read_no_transfer _ h fun _ _ hu => ⟨rfl, hu.latches⟩
  | xfCheck | xfClearStale | xfAddr | xfData | xfTrigger | xfPoll | xfCapture | xfClearDone =>
    have hpc := h.phase
    rw [hp] at hpc
    cases hpc

theorem transfer_opcode_ne {opc : BitVec 8} (h : opc = opcWriteByte ∨ opc = opcReadByte) :
    opc ≠ opcActivate ∧ opc ≠ opcDeactivate ∧ opc ≠ opcConfigureClock ∧ opc ≠ opcActivatePins ∧
      opc ≠ opcDeactivatePins ∧ opc ≠ opcSetTiming := by
  obtain rfl | rfl := h <;> decide

theorem transfer_latches_opcode {x : Latches} (h : transferLatches x = true) :
    x.opc = opcWriteByte ∨ x.opc = opcReadByte := by
  simp only [transferLatches, Bool.and_eq_true, Bool.or_eq_true, beq_iff_eq] at h
  exact h.2.imp And.left And.left

/-- Between its accept step and RESPOND a command outside the transfer phases has no transfer's opcode. -/
theorem no_transfer_of_phase_fits {s : State} (hf : s.phaseFits = true) (ht : s.pc.isTransfer = false)
    (hi : s.pc ≠ .idle) (hr : s.pc ≠ .respond) : NoTransfer s := by
  refine ⟨ht, Bool.eq_false_iff.mpr fun hx => ?_⟩
  have hopc := transfer_opcode_ne (transfer_latches_opcode hx)
  cases hp : s.pc with
  | idle => exact hi hp
  | respond => exact hr hp
  | xfCheck | xfClearStale | xfAddr | xfData | xfTrigger | xfPoll | xfCapture | xfClearDone =>
    rw [hp] at ht
    cases ht
  | _ => simp [State.phaseFits, hp, hopc] at hf

/-! ### The transfer phases keep the fit -/

/-- R120: an unbounded poll goes on to the capture or the clearing of DONE with nothing in flight, or polls again. -/
theorem poll_step_transfer_fits {s : State} (hs : s.transferFits = true) (hp : s.pc = .xfPoll)
    (hl : s.cfg.pollLimit = none) : (phaseXfPoll s).transferFits = true := by
  rw [phase_xf_poll]
  generalize hu : (s.nextDraw.log (.read 0x00D (dcsValue s))).setX { s.x with polls := pollsNext s.x.polls } = u
  have hpending : u.pending = s.pending := hu ▸ rfl
  have hdcs : u.dcs = s.dcs := hu ▸ rfl
  have hlimit : u.cfg.pollLimit = none := hu ▸ hl
  obtain ⟨hd, e⟩ | ⟨-, ⟨n, hn, -⟩, -⟩ | ⟨hd, -, e⟩ := poll_next_cases s.dcs.done u
  · have hnone : u.pending = none := hpending.trans (transfer_fits_poll hs hp hd)
    rw [e]
    cases u.x.dir <;> simp [State.transferFits, hnone]
  · cases hlimit.symm.trans hn
  · rw [e]
    simp [State.transferFits, hdcs, hd]

/-- R115 to R122: every transfer phase leaves what the next one needs. -/
theorem transfer_phase_fits {s : State} (hs : s.transferFits = true) (hl : s.cfg.pollLimit = none)
    (ht : s.pc.isTransfer = true) : (phaseStep s).transferFits = true := by
  have hpending := transfer_fits_pending hs
  have hdone := transfer_fits_done_clear hs
  unfold phaseStep
  cases hp : s.pc with
  | xfCheck =>
    have hnone := hpending (by simp [hp])
    simp only [phase_xf_check]
    split
    · simp [State.transferFits, hnone]
    · next hd => exact transfer_fits_of_drained hnone (Bool.eq_false_iff.mpr hd)
  | xfClearStale =>
    simp only [phase_xf_clear_stale]
    exact transfer_fits_of_drained (hpending (by simp [hp])) rfl
  | xfAddr =>
    simp only [phase_xf_addr]
    exact transfer_fits_of_drained (hpending (by simp [hp])) (hdone (.inl hp))
  | xfData =>
    simp only [phase_xf_data]
    exact transfer_fits_of_drained (hpending (by simp [hp])) (hdone (.inr (.inl hp)))
  | xfTrigger =>
    have hnone := hpending (by simp [hp])
    have hd : (triggeredDcs s).done = false := hdone (.inr (.inr hp))
    by_cases hw : slotWidth (startedXfer s s.x.dir).slot = width8Code
    · simp [phase_xf_trigger_start s hnone hw, State.transferFits, hd]
    · simp [phase_xf_trigger_width s hnone hw, State.transferFits, hd]
  | xfPoll => exact poll_step_transfer_fits hs hp hl
  | xfCapture =>
    simp only [phase_xf_capture]
    simp [State.transferFits, hpending, hp]
  | xfClearDone =>
    simp only [phase_xf_clear_done]
    exact transfer_fits_of_drained (hpending (by simp [hp])) rfl
  | _ => rw [hp] at ht; cases ht

theorem phase_step_transfer_fits {s : State} (hf : s.phaseFits = true) (hs : s.transferFits = true)
    (hl : s.cfg.pollLimit = none) : (phaseStep s).transferFits = true := by
  cases ht : s.pc.isTransfer with
  | true => exact transfer_phase_fits hs hl ht
  | false =>
    have hpoll : s.pc ≠ .xfPoll := fun h => by simp [h, Phase.isTransfer] at ht
    have hnone := transfer_fits_pending hs hpoll
    by_cases hi : s.pc = .idle
    · have e : phaseStep s = s := by simp only [phaseStep, hi]
      rwa [e]
    by_cases hr : s.pc = .respond
    · have e : phaseStep s = phaseRespond s := by simp only [phaseStep, hr]
      rw [e]
      simp [phaseRespond, State.transferFits, hnone]
    · exact transfer_fits_of_no_transfer (phase_step_no_transfer (no_transfer_of_phase_fits hf ht hi hr))
        ((phase_step_beside_engine hf ht).transfer.pending.trans hnone)

/-! ### The other movers keep the fit -/

/-- R97: a completion ends the transfer that was in flight. -/
theorem engine_step_transfer_fits {s : State} (hs : s.transferFits = true) : (engineStep s).transferFits = true := by
  obtain ⟨x, hp, -, e⟩ | ⟨-, e⟩ := engine_step_cases s
  · have hpoll : s.pc = .xfPoll := by
      by_contra hn
      cases hp.symm.trans (transfer_fits_pending hs hn)
    obtain ⟨dd, n, es, ex, -⟩ := complete_xfer_precise s x
    rw [e, ex]
    simp [State.transferFits, hpoll]
  · rwa [e]

theorem take_fault_transfer_fits {s : State} (f : Fault) (b : Option BusReq) (hs : s.transferFits = true) :
    (s.takeFault f b).transferFits = true :=
  transfer_fits_of_same (block_move_control (.fault f b)) (same_transfer_take_fault s f b) hs

/-- R135: with nothing in flight an accept step's first phase fits. -/
theorem accept_of_transfer_fits {i : Instr} {s : State} (hc : i.isCommand = true) (hp : s.pending = none) :
    (acceptOf i s).transferFits = true := by
  cases i with
  | activate =>
    simp only [acceptOf, acceptActivate]
    split <;> simp [State.transferFits, hp]
  | setTiming =>
    simp only [acceptOf, acceptSetTiming]
    split <;> simp [State.transferFits, hp]
  | writeByte | readByte =>
    simp only [acceptOf, acceptTransfer]
    split <;> simp [State.transferFits, hp]
  | deactivate | configureClock | activatePins | deactivatePins =>
    simp [acceptOf, startPinLoop, acceptConfigureClock, State.transferFits, hp]
  | _ => cases hc

/-- R126, R127: with the unbounded poll, and while only the controller drives the bus, every step keeps the fit. -/
theorem step_transfer_fits {s t : State} (hf : s.phaseFits = true) (hs : s.transferFits = true)
    (hl : s.cfg.pollLimit = none) (hq : s.quiet) (h : step s = .next t) : t.transferFits = true := by
  have hport (ws : List Word) : (s.afterTurn.setPort ws).transferFits = true := hs
  cases step_kind h with
  | engine _ ht => exact ht ▸ engine_step_transfer_fits (s := s.afterTurn) hs
  | phase _ _ ht => exact ht ▸ phase_step_transfer_fits (s := s.afterTurn) hf hs hl
  | waits _ _ ht => exact ht ▸ hs
  | illegal _ _ _ ht =>
    subst ht
    obtain ⟨-, e⟩ | ⟨-, e⟩ := admit_illegal_cases (s.afterTurn.setPort s.port.tail)
    · exact e ▸ take_fault_transfer_fits _ _ (hport _)
    · rw [e]; exact hs
  | command i rest _ hd ht =>
    have hc := decode_command_is_command hd
    obtain ⟨-, ⟨-, rfl⟩ | ⟨-, -, -, rfl⟩ | ⟨-, -, -, rfl⟩ | ⟨hp, -, rfl⟩⟩ := exec_command_next hc ht
    · exact take_fault_transfer_fits _ _ (hport rest)
    · exact take_fault_transfer_fits _ _ (hport rest)
    · exact take_fault_transfer_fits _ _ (hport rest)
    · have hidle : s.pc = .idle := hp
      exact accept_of_transfer_fits hc (transfer_fits_pending hs (by simp [hidle]))
  | bus r _ hr hp _ _ => exact absurd hr (hq hp r)
  | unlisted r _ hr hp _ _ _ => exact absurd hr (hq hp r)
  | secondIssuer r _ _ _ ht => exact ht ▸ take_fault_transfer_fits (s := s.afterTurn) _ _ hs

/-! ### No START meets an old transfer (R126, R129) -/

/-- R138: whatever the clock does, a phase's fault is the clock's or that of a trigger over a transfer in flight. -/
theorem phase_step_fault_reason {s : State} {f : FaultRecord} (hf : s.phaseFits = true) (hnone : s.fault = none)
    (h : (phaseStep s).fault = some f) :
    f.reason = .clkWhileRunning ∨ (f.reason = .startWhilePending ∧ s.pc = .xfTrigger ∧ s.pending ≠ none) := by
  by_cases hc : s.clockFits = true
  · exact .inr (phase_step_fault hf hc hnone h)
  refine .inl ?_
  have hrun (hp : s.pc = .clkDivide ∨ s.pc = .clkEnable) : s.clk.enab = true := by
    obtain hp | hp := hp <;> simpa [State.clockFits, hp] using hc
  cases hp : s.pc with
  | clkDivide =>
    have e : phaseStep s = phaseClkDivide s := by simp only [phaseStep, hp]
    rw [e, phase_clk_divide_running s (hrun (.inl hp)), take_fault_fault] at h
    cases h
    rfl
  | clkEnable =>
    have e : phaseStep s = phaseClkEnable s := by simp only [phaseStep, hp]
    by_cases hsrc : s.clk.src = smiClkSrc
    · rw [e, phase_clk_enable s (.inr hsrc), (clk_exit_goes_on _).block.fault] at h
      cases hnone.symm.trans h
    · rw [e, phase_clk_enable_running s (hrun (.inr hp)) hsrc, take_fault_fault] at h
      cases h
      rfl
  | _ => exact absurd (by simp only [State.clockFits, hp]) hc

/-- While only the controller drives the bus, F_START_WHILE_PENDING comes of a trigger over a transfer in flight. -/
theorem step_start_while_pending {s t : State} {f : FaultRecord} (hf : s.phaseFits = true) (hq : s.quiet)
    (h : step s = .next t) (hnone : s.fault = none) (hfault : t.fault = some f) (hr : f.reason = .startWhilePending) :
    s.pc = .xfTrigger ∧ s.pending ≠ none := by
  cases quiet_step hq h with
  | rests h =>
    obtain h | ⟨g, hg, hreason⟩ := h.fault
    · cases hfault.symm.trans (h.trans hnone)
    · cases hfault.symm.trans hg
      simp [hr] at hreason
  | phase h =>
    obtain hclk | ⟨-, hp⟩ := phase_step_fault_reason (s := s.afterTurn) hf hnone (h ▸ hfault)
    · cases hclk.symm.trans hr
    · exact hp
  | accepts i rest _ h =>
    have hsame : t.fault = s.fault := h ▸ (accept_of_block i (s.accepting rest)).fault
    cases hfault.symm.trans (hsame.trans hnone)

/-- At RESPOND the opcode of a transfer command has a transfer's latches. -/
theorem phase_fits_respond_transfer {s : State} (hf : s.phaseFits = true) (hp : s.pc = .respond)
    (hopc : s.x.opc = opcWriteByte ∨ s.x.opc = opcReadByte) : transferLatches s.x = true := by
  have h : s.hstate = .active ∧ transferLatches s.x = true := by
    simpa [State.phaseFits, hp, transfer_opcode_ne hopc] using hf
  exact h.2

/-- Settles O48: the fit is kept by every mover, at XF_TRIGGER it has nothing in flight, and at RESPOND it is what the
third clause says. -/
theorem unboundedTransfersLeaveNothingInFlight : Obligations.UnboundedTransfersLeaveNothingInFlight := by
  intro s t hinv hs hl hq hstep
  have hpending := transfer_fits_pending hs
  refine ⟨step_transfer_fits hinv.phase hs hl hq hstep, fun f hnone hfault hr => ?_, fun hp hopc => ?_⟩
  · obtain ⟨hp, hne⟩ := step_start_while_pending hinv.phase hq hstep hnone hfault hr
    exact hne (hpending (by simp [hp]))
  · exact ⟨transfer_fits_respond hs hp (phase_fits_respond_transfer hinv.phase hp hopc), hpending (by simp [hp])⟩

/-- Settles O41: the trigger's write is the START that R84 faults. -/
theorem triggerOverAnOldTransferFaults : Obligations.TriggerOverAnOldTransferFaults := by
  intro s x ⟨hf, _⟩ hp hx
  refine ⟨triggerWord s.x.dir, by cases s.x.dir <;> rfl, ?_⟩
  have e : phaseStep s = phaseXfTrigger s := by simp only [phaseStep, hp]
  have hdesc : (smiWrite idxDcs (triggerWord s.x.dir)).desc = 0x10D :=
    show mkDesc true 0 idxDcs = 0x10D by decide
  rw [controllerStep, while_running_of_none _ hf, e, phase_xf_trigger_pending s (by simp [hx]), State.takeFault,
    dcs_write_data, hdesc, ← hp]
  rfl

/-! ### Traces (R64) -/

/-- A trace shows of a DCS read whether DONE was found. -/
theorem shown_dcs_read (v : Word) : Event.shown (.read 0x00D v) = dcsReadShown (dcsDone v) := by
  have hv : v &&& doneBit = if dcsDone v then doneBit else 0 := BitVec.and_twoPow v 2
  simp only [Event.shown, if_true, hv, dcsReadShown]

/-- The `q` reads of DCS that polls make while nothing but the polls draws (R83). -/
def pollReads (d : Dcs) (draws : Nat) : Nat → List Event
  | 0 => []
  | q + 1 => .read 0x00D (dcsReadWord d (Config.draw 1 draws) (Config.draw 28 draws)) :: pollReads d (draws + 1) q

theorem shown_poll_reads (d : Dcs) (draws q : Nat) :
    (pollReads d draws q).map Event.shown = List.replicate q (dcsReadShown d.done) := by
  induction q generalizing draws with
  | zero => rfl
  | succ q ih => rw [pollReads, List.map_cons, shown_dcs_read, dcs_done_read_word, ih, List.replicate_succ]

/-! ### The poll loop while DONE is clear (R120) -/

/-- A poll that polls again: the read is recorded and counted, and the phase stays. -/
def State.polledAgain (s : State) : State :=
  (s.nextDraw.log (.read 0x00D (dcsValue s))).setX { s.x with polls := pollsNext s.x.polls }

/-- R120: below POLL_LIMIT, or without one, a poll that finds DONE clear polls again. -/
theorem poll_again {s : State} (hp : s.pc = .xfPoll) (hd : s.dcs.done = false)
    (hl : ∀ n, s.cfg.pollLimit = some n → (pollsNext s.x.polls).toNat < n) : phaseStep s = s.polledAgain := by
  have e : phaseStep s = pollNext s.dcs.done s.polledAgain := by
    simp only [phaseStep, hp]
    exact phase_xf_poll s
  rw [e]
  obtain ⟨h, -⟩ | ⟨-, ⟨n, hn, hle⟩, -⟩ | ⟨-, -, e⟩ := poll_next_cases s.dcs.done s.polledAgain
  · cases hd.symm.trans h
  · exact absurd hle (hl n hn).not_ge
  · rw [e, ← hp]
    rfl

theorem polls_next_toNat (p : Word) : (pollsNext p).toNat = min (p.toNat + 1) 0xFFFFFFFF := by
  have hp := p.isLt
  unfold pollsNext
  split
  · next h => subst h; rfl
  · next h =>
    have hne : p.toNat ≠ 0xFFFFFFFF := fun e => h (BitVec.eq_of_toNat_eq e)
    rw [BitVec.toNat_add_of_lt (by simp; omega), Nat.min_eq_left (by omega)]
    rfl

/-- R120: `x[polls]` counts the polls up to 0xFFFFFFFF. -/
theorem polls_next_iterate_toNat (q : Nat) (p : Word) : (pollsNext^[q] p).toNat = min (p.toNat + q) 0xFFFFFFFF := by
  induction q generalizing p with
  | zero =>
    have hp := p.isLt
    rw [Function.iterate_zero_apply]
    omega
  | succ q ih =>
    rw [Function.iterate_succ_apply, ih, polls_next_toNat]
    omega

/-- `q` polls in a row find DONE clear, before POLL_LIMIT is reached. -/
theorem run_polls_again {s : State} {ts : List Turn} (n q : Nat) (hs : s.schedule = List.replicate q .controller ++ ts)
    (hf : s.fault = none) (hp : s.pc = .xfPoll) (hd : s.dcs.done = false)
    (hl : ∀ m, s.cfg.pollLimit = some m → s.x.polls.toNat + q < m) :
    run (n + q) s = run n { s with
      schedule := ts, draws := s.draws + q, x := { s.x with polls := pollsNext^[q] s.x.polls }
      history := s.history ++ pollReads s.dcs s.draws q } := by
  induction q generalizing s with
  | zero =>
    rw [List.replicate_zero, List.nil_append] at hs
    subst hs
    simp only [pollReads, List.append_nil]
    rfl
  | succ q ih =>
    have hnext := polls_next_toNat s.x.polls
    have hagain := poll_again (s := s.setSchedule (List.replicate q .controller ++ ts)) hp hd fun m hm => by
      have := hl m hm
      simp only [State.setSchedule_x]
      omega
    calc run (n + q + 1) s
        = run (n + q) _ := run_phase (n + q) ⟨hs, hf, hp⟩ hagain
      _ = run n _ := ih rfl hf hp hd fun m hm => by
        have := hl m hm
        simp only [State.polledAgain, State.setX_x, State.setSchedule_x]
        omega
      _ = run n _ := by
        simp only [State.polledAgain, State.setX, State.log, State.nextDraw, State.setSchedule, pollReads, dcsValue,
          List.append_assoc, List.cons_append, List.nil_append, Nat.add_assoc, Nat.add_comm 1 q,
          Function.iterate_succ_apply]

/-- Nothing is scheduled and no completion is owed: the step is the controller's (R97). -/
theorem step_unscheduled {s : State} (hs : s.schedule = []) (hf : s.fault = none)
    (he : s.cfg.busResponds = false ∨ s.pending = none ∨ s.clockOK = false) : step s = .next (phaseStep s) := by
  have hno : (s.cfg.busResponds && s.engineEnabled) = false := by
    obtain h | h | h := he <;> simp [State.engineEnabled, h]
  simp only [step, hs, hno, Bool.false_eq_true, if_false]
  exact while_running_of_none _ hf

/-- Settles O39, by induction on the number of steps: each is a poll that polls again. -/
theorem unansweredPollNeverEnds : Obligations.UnansweredPollNeverEnds := by
  intro s n
  induction n generalizing s with
  | zero => exact fun _ hp _ _ hr _ _ => ⟨s, run_zero s, hp, hr, rfl, rfl⟩
  | succ n ih =>
    intro hclean hp hd hl hr hs he
    have hstep : step s = .next s.polledAgain := by
      rw [step_unscheduled hs hclean.1 he, poll_again hp hd fun m hm => by cases hl.symm.trans hm]
    obtain ⟨t, hrun, hpc, hresp, hpend, hlen⟩ := ih s.polledAgain hclean hp hd hl hr hs he
    refine ⟨t, (run_succ n hstep).trans hrun, hpc, hresp, hpend, hlen.trans ?_⟩
    simp only [State.polledAgain, State.setX_history, State.log_history, State.nextDraw_history, List.length_append,
      List.length_singleton]
    omega

/-- R120: the poll that reaches POLL_LIMIT with DONE clear answers TIMEOUT. -/
theorem run_poll_timeout {s : State} {ts : List Turn} (n : Nat) {m : Nat} (h : AtPhase s .xfPoll ts)
    (hd : s.dcs.done = false) (hl : s.cfg.pollLimit = some m) (hm : m ≤ (pollsNext s.x.polls).toNat) :
    run (n + 1) s = run n { s with
      schedule := ts, draws := s.draws + 1, x := { s.x with polls := pollsNext s.x.polls }, pc := .idle
      response := some ⟨.timeout, 0⟩, history := s.history ++ [.read 0x00D (dcsValue s)] } := by
  rw [run_xf_poll n h, hd]
  simp only [pollNext, hl, hm, Bool.false_eq_true, if_false, if_true]
  rfl

/-- Settles O40: `n - 1` polls that poll again, and the one that reaches the limit. -/
theorem boundedPollTimesOut : Obligations.BoundedPollTimesOut := by
  intro s n ts hclean hp hd hpos hbig hl hpolls hs
  obtain ⟨m, rfl⟩ : ∃ m, n = m + 1 := ⟨n - 1, by omega⟩
  have hcount : m + 1 ≤ (pollsNext (pollsNext^[m] s.x.polls)).toNat := by
    rw [← Function.iterate_succ_apply' pollsNext, polls_next_iterate_toNat, hpolls]
    omega
  have hbelow (k : Nat) (hk : s.cfg.pollLimit = some k) : s.x.polls.toNat + m < k := by
    cases hl.symm.trans hk
    rw [hpolls]
    simp
  have hturns : s.schedule = List.replicate m .controller ++ (.controller :: ts) := by
    rw [hs, List.replicate_succ', List.append_assoc, List.singleton_append]
  have hrun :=
    calc run (m + 1) s
        = run (1 + m) s := by rw [Nat.add_comm]
      _ = run 1 _ := run_polls_again 1 m hturns hclean.1 hp hd hbelow
      _ = run 0 _ := run_poll_timeout 0 ⟨rfl, hclean.1, hp⟩ hd hl hcount
  refine ⟨_, hrun, rfl, rfl, rfl, rfl, ?_, rfl⟩
  simp only [State.trace, List.map_append, List.map_cons, List.map_nil, shown_poll_reads, shown_dcs_read,
    dcs_done_value, hd, List.append_assoc, List.replicate_succ']

/-! ### The transfer's words (R24, R25, R54, R55) -/

theorem channel_of_toNat (ch : Word) : (channelOf ch).toNat = ch.toNat % 4 := by
  simp [channelOf, BitVec.extractLsb'_toNat]

/-- R54: the channel and the address lie in fields of their own. -/
theorem da_word_toNat (ch addr : Word) : (daWord ch addr).toNat = ch.toNat % 4 * 256 + addr.toNat % 64 := by
  have haddr : addr.toNat &&& 63 = addr.toNat % 64 := Nat.and_two_pow_sub_one_eq_mod _ 6
  have hor := Nat.shiftLeft_add_eq_or_of_lt (i := 8) (b := addr.toNat % 64) (by omega) (ch.toNat % 4)
  rw [Nat.shiftLeft_eq] at hor
  have hlt : ch.toNat % 4 * 256 < 4294967296 := by omega
  simp [daWord, channel_of_toNat, haddr, Nat.shiftLeft_eq, Nat.mod_eq_of_lt hlt, ← hor]

theorem da_word_eq {ch : Word} (addr : Word) (hch : ch.toNat ≤ 3) :
    daWord ch addr = BitVec.ofNat 32 (ch.toNat * 256 + addr.toNat % 64) := by
  refine BitVec.eq_of_toNat_eq ?_
  rw [da_word_toNat, BitVec.toNat_ofNat]
  omega

theorem da_dev_da_word (ch addr : Word) : daDev (daWord ch addr) = channelOf ch := by
  refine BitVec.eq_of_toNat_eq ?_
  rw [daDev, BitVec.extractLsb'_toNat, da_word_toNat, channel_of_toNat, Nat.shiftRight_eq_div_pow]
  omega

theorem da_addr_da_word (ch addr : Word) : daAddr (daWord ch addr) = addr.setWidth 6 := by
  refine BitVec.eq_of_toNat_eq ?_
  rw [daAddr, BitVec.extractLsb'_toNat, da_word_toNat, BitVec.toNat_setWidth, Nat.shiftRight_zero]
  omega

/-- R25: DD_DATA is the low byte. -/
theorem dd_byte_eq (v : Word) : ddByte v = v.setWidth 8 := (BitVec.setWidth_eq_extractLsb' (by decide)).symm

theorem dd_word_eq (data : Word) : ddWord data = BitVec.ofNat 32 (data.toNat % 256) := by
  refine BitVec.eq_of_toNat_eq ?_
  simp [ddWord, BitVec.extractLsb'_toNat]

theorem dd_byte_dd_word (data : Word) : ddByte (ddWord data) = data.setWidth 8 := by
  rw [dd_byte_eq, ddWord]
  refine BitVec.eq_of_toNat_eq ?_
  simp [BitVec.extractLsb'_toNat]

/-- R84: the transfer that starts with DA at the word of R54. -/
theorem started_xfer_of_da {s : State} {ch addr : Word} (h : s.da = daWord ch addr) (d : Dir) :
    startedXfer s d =
      ⟨channelOf ch, addr.setWidth 6, d, ddByte s.dd, s.slot[slotNumber (channelOf ch) d]⟩ := by
  simp only [startedXfer, h, da_dev_da_word, da_addr_da_word]

/-! ### The latest driven write of a history (R98) -/

theorem last_driven_write_cons (c : BitVec 2) (a : BitVec 6) (e : Event) (es : List Event) :
    lastDrivenWrite c a (e :: es) = (lastDrivenWrite c a es).or (lastDrivenWrite c a [e]) := by
  rw [lastDrivenWrite.eq_def]
  dsimp only
  cases lastDrivenWrite c a es <;> rfl

theorem last_driven_write_append (c : BitVec 2) (a : BitVec 6) (h es : List Event) :
    lastDrivenWrite c a (h ++ es) = (lastDrivenWrite c a es).or (lastDrivenWrite c a h) := by
  induction h with
  | nil => exact Option.or_none.symm
  | cons e h ih => rw [List.cons_append, last_driven_write_cons, ih, Option.or_assoc, ← last_driven_write_cons]

/-- Bus transactions are no completions. -/
theorem last_driven_write_bus (c : BitVec 2) (a : BitVec 6) {es : List Event} (h : es.all isBusEvent = true) :
    lastDrivenWrite c a es = none := by
  induction es with
  | nil => rfl
  | cons e es ih =>
    rw [List.all_cons, Bool.and_eq_true] at h
    rw [last_driven_write_cons, ih h.2, Option.none_or]
    cases e with
    | device => cases h.1
    | _ => rfl

/-- A driven write that only bus transactions follow is the latest one. -/
theorem last_driven_write_completed (c : BitVec 2) (a : BitVec 6) (b : Byte) {es : List Event}
    (h : es.all isBusEvent = true) : lastDrivenWrite c a (.device c a .write b true :: es) = some b := by
  rw [last_driven_write_cons, last_driven_write_bus c a h, Option.none_or]
  simp [lastDrivenWrite]

/-- A trace shows every completion whole. -/
theorem last_driven_write_trace (c : BitVec 2) (a : BitVec 6) (s : State) :
    lastDrivenWrite c a s.trace = lastDrivenWrite c a s.history := by
  have hshown (e : Event) : lastDrivenWrite c a [e.shown] = lastDrivenWrite c a [e] := by cases e <;> rfl
  unfold State.trace
  induction s.history with
  | nil => rfl
  | cons e h ih => rw [List.map_cons, last_driven_write_cons, ih, hshown, ← last_driven_write_cons]

/-! ### What a transfer leaves alone -/

/-- From `s` to `t` the trace grows by `es`, and what only other commands change stays. -/
structure Transferred (s t : State) (es : List Event) : Prop where
  trace : t.trace = s.trace ++ es
  slot : t.slot = s.slot
  fsel : t.fsel = s.fsel
  clk : t.clk = s.clk
  hstate : t.hstate = s.hstate
  fault : t.fault = s.fault
  refused : t.refused = s.refused
  cfg : t.cfg = s.cfg
  cs : t.cs = s.cs

theorem transferred_trans {s t u : State} {es es' : List Event} (h : Transferred s t es)
    (h' : Transferred t u es') : Transferred s u (es ++ es') where
  trace := by rw [h'.trace, h.trace, List.append_assoc]
  slot := h'.slot.trans h.slot
  fsel := h'.fsel.trans h.fsel
  clk := h'.clk.trans h.clk
  hstate := h'.hstate.trans h.hstate
  fault := h'.fault.trans h.fault
  refused := h'.refused.trans h.refused
  cfg := h'.cfg.trans h.cfg
  cs := h'.cs.trans h.cs

theorem transferred_driven {s t : State} {es : List Event} (h : Transferred s t es) : t.driven = s.driven := by
  rw [State.driven, State.driven, h.fsel]

theorem transferred_clock_ok {s t : State} {es : List Event} (h : Transferred s t es) : t.clockOK = s.clockOK := by
  rw [State.clockOK, State.clockOK, h.clk]

theorem transferred_clean {s t : State} {es : List Event} (h : Transferred s t es) (hs : s.Clean) : t.Clean :=
  ⟨h.fault.trans hs.1, h.refused.trans hs.2⟩

/-! ### From XF_CHECK to the polls (R115 to R119) -/

/-- What XF_CHECK and XF_CLEAR_STALE add to a trace. -/
def checkTrace (done : Bool) : List Event := [dcsReadShown done] ++ if done then [.write 0x10D 0x4] else []

/-- R115, R116: from XF_CHECK to XF_ADDR, with a stale DONE or without. -/
theorem run_check {s : State} {ts : List Turn} (n : Nat)
    (h : AtPhase s .xfCheck (List.replicate s.dcs.done.toNat .controller ++ ts)) :
    ∃ (es : List Event) (stale : Bool) (d : Dcs), es.map Event.shown = checkTrace s.dcs.done ∧ d.done = false ∧
      run (n + s.dcs.done.toNat + 1) s = run n { s with
        schedule := ts, pc := .xfAddr, draws := s.draws + 1, x := { s.x with stale := stale }, dcs := d
        history := s.history ++ es } := by
  have hread := shown_dcs_read (dcsValue s)
  rw [dcs_done_value] at hread
  cases hd : s.dcs.done with
  | false =>
    rw [hd] at h hread
    refine ⟨[.read 0x00D (dcsValue s)], s.x.stale, s.dcs, ?_, hd, run_xf_check n h hd⟩
    rw [List.map_singleton, hread]
    rfl
  | true =>
    rw [hd] at h hread
    refine ⟨[.read 0x00D (dcsValue s), .write 0x10D 0x4], true, ⟨false, false, false⟩, ?_, rfl, ?_⟩
    · rw [List.map_cons, hread]
      rfl
    · calc run (n + 1 + 1) s
          = run (n + 1) _ := run_xf_check_stale (n + 1) h hd
        _ = run n _ := run_xf_clear_stale n ⟨rfl, h.clean, rfl⟩
        _ = run n _ := by simp only [List.append_assoc, List.singleton_append]; rfl

/-- R119: the trigger with DA at the word of R54, through an 8-bit slot. -/
theorem run_trigger {s : State} {ts : List Turn} {d : Dir} {ch addr : Word} (n : Nat) (hd : s.x.dir = d)
    (h : AtPhase s .xfTrigger ts) (hp : s.pending = none) (hda : s.da = daWord ch addr)
    (hw : slotWidth s.slot[slotNumber (channelOf ch) d] = width8Code) :
    run (n + 1) s = run n { s with
      schedule := ts, pc := .xfPoll, dcs := ⟨true, s.dcs.done, d == .write⟩
      pending :=
        some ⟨channelOf ch, addr.setWidth 6, d, ddByte s.dd, s.slot[slotNumber (channelOf ch) d]⟩
      history := s.history ++ [.write 0x10D (triggerWord d)] } := by
  subst hd
  have hx := started_xfer_of_da hda s.x.dir
  rw [run_xf_trigger n h hp (by rw [hx]; exact hw), hx]
  rfl

/-- How many phases follow XF_ADDR up to the trigger. -/
def startTurns : Dir → Nat
  | .write => 2
  | .read => 1

/-- DD when the trigger is written (R118). -/
def startData : (d : Dir) → (dd data : Word) → Word
  | .write, _, data => ddWord data
  | .read, dd, _ => dd

/-- The transfer that the trigger starts (R84, R117 to R119). -/
def triggeredXfer (d : Dir) (s : State) (x : Latches) : Xfer :=
  ⟨channelOf x.op0, x.op1.setWidth 6, d, ddByte (startData d s.dd x.op2), s.slot[slotNumber (channelOf x.op0) d]⟩

/-- The writes from XF_ADDR to the trigger. -/
def startTrace : (d : Dir) → (da data : Word) → List Event
  | .write, da, data => [.write 0x10E da, .write 0x10F (ddWord data), .write 0x10D 0xB]
  | .read, da, _ => [.write 0x10E da, .write 0x10D 0x3]

theorem shown_start_trace (d : Dir) (da data : Word) :
    (startTrace d da data).map Event.shown = startTrace d da data := by
  cases d <;> rfl

/-- R117 to R119: from XF_ADDR to the first poll. -/
theorem run_start {s : State} {ts : List Turn} {d : Dir} (n : Nat) (hd : s.x.dir = d)
    (h : AtPhase s .xfAddr (List.replicate (startTurns d) .controller ++ ts)) (hp : s.pending = none)
    (hw : slotWidth s.slot[slotNumber (channelOf s.x.op0) d] = width8Code) :
    run (n + startTurns d + 1) s = run n { s with
      schedule := ts, pc := .xfPoll, da := daWord s.x.op0 s.x.op1, dd := startData d s.dd s.x.op2
      dcs := ⟨true, s.dcs.done, d == .write⟩, pending := some (triggeredXfer d s s.x)
      history := s.history ++ startTrace d (daWord s.x.op0 s.x.op1) s.x.op2 } := by
  cases d with
  | write =>
    calc run (n + 2 + 1) s
        = run (n + 1 + 1) _ := run_xf_addr (n + 2) h
      _ = run (n + 1) _ := run_xf_data (ts := .controller :: ts) (n + 1) ⟨rfl, h.clean, by rw [hd]⟩
      _ = run n _ := run_trigger (ts := ts) n hd ⟨rfl, h.clean, rfl⟩ hp rfl hw
      _ = run n _ := by simp only [List.append_assoc, List.singleton_append]; rfl
  | read =>
    calc run (n + 1 + 1) s
        = run (n + 1) _ := run_xf_addr (n + 1) h
      _ = run n _ := run_trigger (ts := ts) n hd ⟨rfl, h.clean, by rw [hd]⟩ hp rfl hw
      _ = run n _ := by simp only [List.append_assoc, List.singleton_append]; rfl

/-! ### A transfer in flight (R114 to R120) -/

/-- A transfer in flight from `s`, with the latches `x` and the direction `d`, after `q` polls that found DONE clear. -/
structure InFlight (s u : State) (d : Dir) (x : Latches) (q : Nat) : Prop where
  pc : u.pc = .xfPoll
  opc : u.x.opc = x.opc
  dir : u.x.dir = d
  pending : u.pending = some (triggeredXfer d s x)
  da : u.da = daWord x.op0 x.op1
  dd : u.dd = startData d s.dd x.op2
  rest : Transferred s u
    (checkTrace s.dcs.done ++ startTrace d (daWord x.op0 x.op1) x.op2 ++ List.replicate q (dcsReadShown false))

/-- The controller's turns from XF_CHECK to the end of `q` polls, and the turns after them. -/
def flightTurns (done : Bool) (d : Dir) (q : Nat) (ts : List Turn) : List Turn :=
  .controller :: (List.replicate done.toNat .controller ++ (.controller ::
    (List.replicate (startTurns d) .controller ++ (List.replicate q .controller ++ ts))))

/-- R114: the state that a transfer command's accept step leaves, its turn and words used up. -/
def State.transferring (s : State) (x : Latches) (ws : List Word) (ts : List Turn) : State :=
  { s with schedule := ts, port := ws, x := { x with polls := 0, stale := false }, pc := .xfCheck, response := none }

/-- R115 to R120: from the accept step to the polls. -/
theorem run_in_flight {s : State} {ch : Word} {d : Dir} {q : Nat} (h : TransferReady s ch d q) {x : Latches}
    (hch : x.op0 = ch) (hd : x.dir = d) (n : Nat) (ws : List Word) (ts : List Turn) :
    ∃ u, run (n + q + startTurns d + 1 + s.dcs.done.toNat + 1) (s.transferring x ws (flightTurns s.dcs.done d q ts)) =
        run n u ∧
      InFlight s u d x q ∧ u.port = ws ∧ u.schedule = ts := by
  subst hch
  have hpolls (m : Nat) (hm : s.cfg.pollLimit = some m) : (0#32).toNat + q < m := by
    simpa using h.bound m hm
  obtain ⟨es, stale, c, hes, hc, hcheck⟩ := run_check
    (s := s.transferring x ws (flightTurns s.dcs.done d q ts)) (n + q + startTurns d + 1) ⟨rfl, h.clean.1, rfl⟩
  have hrun :=
    calc run (n + q + startTurns d + 1 + s.dcs.done.toNat + 1) _
        = run (n + q + startTurns d + 1) _ := hcheck
      _ = run (n + q) _ := run_start (ts := List.replicate q .controller ++ ts) (n + q) hd ⟨rfl, h.clean.1, rfl⟩
        h.pending h.width
      _ = run n _ := run_polls_again (ts := ts) n q rfl h.clean.1 rfl hc hpolls
  refine ⟨_, hrun, ⟨rfl, rfl, hd, rfl, rfl, rfl, ?_, rfl, rfl, rfl, rfl, rfl, rfl, rfl, rfl⟩, rfl, rfl⟩
  simp only [State.trace, List.map_append, hes, shown_start_trace, shown_poll_reads, hc, List.append_assoc]
  rfl

/-! ### From the completion to the response (R97, R120 to R122) -/

/-- A transfer has answered OK with the value `v`: DONE, ENABLE and WRITE are clear and nothing is in flight. -/
structure Answered (s t : State) (v : Word) (es : List Event) : Prop where
  pc : t.pc = .idle
  response : t.response = some ⟨.ok, v⟩
  dcs : t.dcs = ⟨false, false, false⟩
  pending : t.pending = none
  da : t.da = s.da
  port : t.port = s.port
  rest : Transferred s t es

/-- Where a poll that finds DONE goes on (R120). -/
def pollExit : Dir → Phase
  | .read => .xfCapture
  | .write => .xfClearDone

/-- R120: a poll that finds DONE. -/
theorem run_poll_done {s : State} {ts : List Turn} {d : Dir} (n : Nat) (h : AtPhase s .xfPoll ts)
    (hd : s.dcs.done = true) (hdir : s.x.dir = d) :
    run (n + 1) s = run n { s with
      schedule := ts, pc := pollExit d
      draws := s.draws + 1, x := { s.x with polls := pollsNext s.x.polls }
      history := s.history ++ [.read 0x00D (dcsValue s)] } := by
  subst hdir
  rw [run_xf_poll n h, hd]
  cases hdir : s.x.dir <;> simp only [pollNext, hdir, pollExit, if_true] <;> rfl

/-- R122: from XF_CLEAR_DONE to the response. -/
theorem run_clear_and_respond {s : State} {ts : List Turn} (n : Nat) (h : AtPhase s .xfClearDone (.controller :: ts)) :
    run (n + 2) s = run n { s with
      schedule := ts, pc := .idle, dcs := ⟨false, false, false⟩, response := some ⟨.ok, responseValue s.x⟩
      history := s.history ++ [.write 0x10D 0x4] } := by
  calc run (n + 2) s
      = run (n + 1) _ := run_xf_clear_done (n + 1) h
    _ = run n _ := run_respond n ⟨rfl, h.clean, rfl⟩

theorem response_value_write {x : Latches} (ho : x.opc = opcWriteByte) (hd : x.dir = .write) : responseValue x = 0 := by
  simp [responseValue, ho, hd, opcWriteByte, opcActivate]

theorem response_value_read {x : Latches} (ho : x.opc = opcReadByte) (hd : x.dir = .read) :
    responseValue x = x.rdata.setWidth 32 := by
  simp [responseValue, ho, hd, opcReadByte, opcActivate]

/-- The engine's turn is next, with the transfer `x` to complete and the controller at its poll. -/
structure AtCompletion (u : State) (x : Xfer) (ts : List Turn) : Prop where
  turn : u.schedule = .engine :: ts
  clean : u.fault = none
  pc : u.pc = .xfPoll
  pending : u.pending = some x
  clock : u.clockOK = true

/-- R97, R120, R122: from the completion of a write to the response. -/
theorem run_write_completion {u : State} {x : Xfer} {ts : List Turn}
    (h : AtCompletion u x (List.replicate 3 .controller ++ ts)) (hx : x.dir = .write) (ho : u.x.opc = opcWriteByte)
    (hd : u.x.dir = .write) :
    ∃ t, run 4 u = .next t ∧ t.dd = u.dd ∧ t.schedule = ts ∧ Answered u t 0
      [.device x.ch x.addr .write x.wbyte u.driven, dcsReadShown true, .write 0x10D 0x4] := by
  have hengine := (engineCompletesAWrite u _ h.turn).1 x h.pending hx h.clock
  have hrun :=
    calc run 4 u
        = run 3 _ := run_succ 3 hengine
      _ = run 2 _ := run_poll_done (ts := [.controller, .controller] ++ ts) 2 ⟨rfl, h.clean, h.pc⟩ rfl hd
      _ = run 0 _ := run_clear_and_respond (ts := ts) 0 ⟨rfl, h.clean, rfl⟩
  refine ⟨_, hrun, rfl, rfl, ⟨rfl, ?_, rfl, rfl, rfl, rfl, ⟨?_, rfl, rfl, rfl, rfl, rfl, rfl, rfl, rfl⟩⟩⟩
  · have hvalue (p : Word) : responseValue { u.x with polls := p } = 0 := response_value_write ho hd
    exact congrArg (some <| Response.mk .ok ·) (hvalue _)
  · simp only [State.trace, List.map_append, List.append_assoc, List.map_singleton, shown_dcs_read, dcs_done_value]
    rfl

/-- A trace shows of a DD read the byte. -/
theorem shown_dd_read (v : Word) : Event.shown (.read 0x00F v) = .read 0x00F ((ddByte v).setWidth 32) := by
  have hv : v &&& 0xFF = (ddByte v).setWidth 32 := by
    rw [dd_byte_eq]
    refine BitVec.eq_of_toNat_eq ?_
    have hmod : v.toNat &&& 255 = v.toNat % 256 := Nat.and_two_pow_sub_one_eq_mod _ 8
    simp [hmod]
    omega
  rw [← hv]
  rfl

/-- R97, R98, R120 to R122: from the completion of a read to the response, with the byte that the device delivers. -/
theorem run_read_completion {u : State} {x : Xfer} {ts : List Turn}
    (h : AtCompletion u x (List.replicate 4 .controller ++ ts)) (hx : x.dir = .read) (ho : u.x.opc = opcReadByte)
    (hd : u.x.dir = .read) :
    ∃ (t : State) (b : Byte), run 5 u = .next t ∧ t.dd.setWidth 8 = b ∧ t.schedule = ts ∧
      (u.driven = true → u.cfg.device = .loopback →
        ∀ a, lastDrivenWrite x.ch x.addr u.history = some a → b = a) ∧
      Answered u t (b.setWidth 32) [.device x.ch x.addr .read b u.driven, dcsReadShown true,
        .read 0x00F (b.setWidth 32), .write 0x10D 0x4] := by
  obtain ⟨dd, hengine, hloop, -⟩ := engineCompletesARead u _ x h.turn h.pending hx h.clock
  have hrun :=
    calc run 5 u
        = run 4 _ := run_succ 4 hengine
      _ = run 3 _ := run_poll_done (ts := [.controller, .controller, .controller] ++ ts) 3 ⟨rfl, h.clean, h.pc⟩ rfl hd
      _ = run 2 _ := run_xf_capture (ts := [.controller, .controller] ++ ts) 2 ⟨rfl, h.clean, rfl⟩
      _ = run 0 _ := run_clear_and_respond (ts := ts) 0 ⟨rfl, h.clean, rfl⟩
  refine ⟨_, dd.setWidth 8, hrun, rfl, rfl, hloop,
    ⟨rfl, ?_, rfl, rfl, rfl, rfl, ⟨?_, rfl, rfl, rfl, rfl, rfl, rfl, rfl, rfl⟩⟩⟩
  · have hvalue (p : Word) (b : Byte) : responseValue { u.x with polls := p, rdata := b } = b.setWidth 32 :=
      response_value_read ho hd
    rw [← dd_byte_eq]
    exact congrArg (some <| Response.mk .ok ·) (hvalue _ _)
  · rw [← dd_byte_eq]
    simp only [State.trace, List.map_append, List.append_assoc, List.map_singleton, shown_dcs_read, shown_dd_read,
      dcs_done_value]
    rfl

/-! ### WRITE_BYTE and READ_BYTE (R123, R124) -/

/-- The turns of a transfer, from the host's on. -/
theorem transfer_turns_eq (done : Bool) (d : Dir) (q late : Nat) (ts : List Turn) :
    transferTurns (startTurns d + 2 + done.toNat) q late ++ ts =
      .host :: flightTurns done d q (.engine :: (List.replicate (1 + late) .controller ++ ts)) := by
  have hturns : List.replicate (startTurns d + 2 + done.toNat + q) Turn.controller =
      .controller :: (List.replicate done.toNat .controller ++
        (.controller :: (List.replicate (startTurns d) .controller ++ List.replicate q .controller))) := by
    rw [← List.replicate_add, ← List.replicate_succ, ← List.replicate_add, ← List.replicate_succ]
    congr 1
    omega
  simp only [transferTurns, hturns, flightTurns, List.cons_append, List.append_assoc]

/-- R114 to R120: a transfer command's turn and the phases up to the engine's turn. -/
theorem run_command_in_flight {s : State} {ch : Word} {d : Dir} {q : Nat} (h : TransferReady s ch d q) {x : Latches}
    (hch : x.op0 = ch) (hd : x.dir = d) {ws : List Word} {ts : List Turn}
    (hstep : step s = .next (s.transferring x ws (flightTurns s.dcs.done d q (.engine :: ts)))) (n : Nat) :
    ∃ u, run (n + (startTurns d + 3 + s.dcs.done.toNat + q)) s = run n u ∧ InFlight s u d x q ∧ u.port = ws ∧
      AtCompletion u (triggeredXfer d s x) ts := by
  obtain ⟨u, hrun, hu, hport, hturn⟩ := run_in_flight h hch hd n ws (.engine :: ts)
  refine ⟨u, ?_, hu, hport, hturn, hu.rest.fault.trans h.clean.1, hu.pc, hu.pending,
    (transferred_clock_ok hu.rest).trans h.clock⟩
  rw [← hrun, ← run_succ _ hstep]
  congr 1
  omega

/-- The latches of WRITE_BYTE and of READ_BYTE (R114). -/
def Latches.ofWriteByte (x : Latches) (ch addr data : Word) : Latches :=
  { x with opc := opcWriteByte, dir := .write, op0 := ch, op1 := addr, op2 := data }

def Latches.ofReadByte (x : Latches) (ch addr : Word) : Latches :=
  { x with opc := opcReadByte, dir := .read, op0 := ch, op1 := addr }

/-- R123: the host's turn with WRITE_BYTE. -/
theorem step_write_byte {s : State} {ch addr data : Word} {q : Nat} (h : TransferReady s ch .write q) {ws : List Word}
    {ts : List Turn} (hport : s.port = 0x00000007 :: ch :: addr :: data :: ws) (hs : s.schedule = .host :: ts) :
    step s = .next (s.transferring (s.x.ofWriteByte ch addr data) ws ts) := by
  have hdecode : decodeCommand s.port = .ok (.writeByte ch addr data, ws) :=
    hport ▸ decode_command_of_encode (i := .writeByte ch addr data) rfl ws
  obtain ⟨-, haccept, -⟩ := operandCommandsAreAccepted ((s.setSchedule ts).setPort ws) .write ch addr data 0 0 h.clean
    h.idle h.active h.channel
  exact (step_host hs hdecode).trans haccept

/-- R124: the host's turn with READ_BYTE. -/
theorem step_read_byte {s : State} {ch addr : Word} {q : Nat} (h : TransferReady s ch .read q) {ws : List Word}
    {ts : List Turn} (hport : s.port = 0x00000008 :: ch :: addr :: ws) (hs : s.schedule = .host :: ts) :
    step s = .next (s.transferring (s.x.ofReadByte ch addr) ws ts) := by
  have hdecode : decodeCommand s.port = .ok (.readByte ch addr, ws) :=
    hport ▸ decode_command_of_encode (i := .readByte ch addr) rfl ws
  obtain ⟨-, -, haccept⟩ := operandCommandsAreAccepted ((s.setSchedule ts).setPort ws) .read ch addr 0 0 0 h.clean
    h.idle h.active h.channel
  exact (step_host hs hdecode).trans haccept

/-- Settles O36: the host's turn accepts the command, its phases bring the transfer in flight, and its completion is
answered. -/
theorem writeByteRunsItsEightSteps : Obligations.WriteByteRunsItsEightSteps := by
  intro s ws ts ch addr data q h hport hs
  rw [show 4 + s.dcs.done.toNat = startTurns .write + 2 + s.dcs.done.toNat from rfl, transfer_turns_eq] at hs
  obtain ⟨u, hfly, hu, hws, hready⟩ := run_command_in_flight h rfl rfl (step_write_byte h hport hs) 4
  obtain ⟨t, hend, hdd, hts, ht⟩ := run_write_completion hready rfl hu.opc hu.dir
  have hrest := transferred_trans hu.rest ht.rest
  refine ⟨t, ?_, ht.pc, ht.response, ht.dcs, ht.pending, ?_, ?_, ?_, hrest.slot, hrest.fsel, hrest.clk, hrest.hstate,
    transferred_clean hrest h.clean, hrest.cfg, hrest.cs, ht.port.trans hws, hts⟩
  · rw [← hend, ← hfly]
    congr 1
    simp only [startTurns]
    omega
  · exact (ht.da.trans hu.da).trans (da_word_eq addr h.channel)
  · exact (hdd.trans hu.dd).trans (dd_word_eq data)
  · rw [hrest.trace, transferred_driven hu.rest, ← da_word_eq addr h.channel, ← dd_word_eq]
    simp only [Latches.ofWriteByte, triggeredXfer, startData, dd_byte_dd_word, checkTrace, startTrace,
      List.append_assoc]

/-- Up to the completion a transfer's trace is bus transactions alone. -/
theorem flight_trace_bus (done : Bool) (d : Dir) (da data : Word) (q : Nat) :
    (checkTrace done ++ startTrace d da data ++ List.replicate q (dcsReadShown false)).all isBusEvent = true := by
  have hstart : (checkTrace done ++ startTrace d da data).all isBusEvent = true := by
    cases done <;> cases d <;> rfl
  rw [List.all_append, hstart, List.all_replicate]
  split <;> rfl

/-- Settles O37: as O36, and the byte that the completion delivers is read back; in the loopback configuration it is the
latest driven write's of the state before the command, since its own transactions complete nothing. -/
theorem readByteReturnsTheDevicesByte : Obligations.ReadByteReturnsTheDevicesByte := by
  intro s ws ts ch addr q h hport hs
  rw [show 3 + s.dcs.done.toNat = startTurns .read + 2 + s.dcs.done.toNat from rfl, transfer_turns_eq] at hs
  obtain ⟨u, hfly, hu, hws, hready⟩ := run_command_in_flight h rfl rfl (step_read_byte h hport hs) 5
  obtain ⟨t, b, hend, hdd, hts, hloop, ht⟩ := run_read_completion hready rfl hu.opc hu.dir
  have hrest := transferred_trans hu.rest ht.rest
  refine ⟨t, b, ?_, ht.pc, ht.response, ht.dcs, ht.pending, ?_, hdd, ?_, fun hdriven hdevice a ha => ?_, hrest.slot,
    hrest.fsel, hrest.clk, hrest.hstate, transferred_clean hrest h.clean, hrest.cfg, hrest.cs, ht.port.trans hws, hts⟩
  · rw [← hend, ← hfly]
    congr 1
    simp only [startTurns]
    omega
  · exact (ht.da.trans hu.da).trans (da_word_eq addr h.channel)
  · rw [hrest.trace, transferred_driven hu.rest, ← da_word_eq addr h.channel]
    simp only [Latches.ofReadByte, triggeredXfer, startData, checkTrace, startTrace, List.append_assoc]
  · refine hloop ((transferred_driven hu.rest).trans hdriven) (hu.rest.cfg ▸ hdevice) a ?_
    rw [← last_driven_write_trace, hu.rest.trace, last_driven_write_append, last_driven_write_trace,
      last_driven_write_bus _ _ (flight_trace_bus _ _ _ _ _), Option.none_or]
    exact ha

/-- Settles O38: the write's run leaves a state that is ready for the read, and its completion is the latest driven
write of the history. -/
theorem loopbackReadReturnsTheByteWritten : Obligations.LoopbackReadReturnsTheByteWritten := by
  intro s ws ts ch addr data q r hw hr hdriven hdevice hport hs
  obtain ⟨t, hwrite, hidle, -, hdcs, hpending, -, -, htrace, hslot, hfsel, hclk, hhstate, hclean, hcfg, -, hport',
    hs'⟩ := writeByteRunsItsEightSteps s _ _ ch addr data q hw hport hs
  have hready : TransferReady t ch .read r :=
    ⟨hclean, hidle, hhstate.trans hr.active, hr.channel, hpending, by rw [State.clockOK, hclk]; exact hr.clock,
      by simpa only [hslot] using hr.width, hcfg ▸ hr.bound⟩
  have hdone : t.dcs.done.toNat = 0 := by rw [hdcs]; rfl
  have hdriven' : t.driven = true := by rw [State.driven, hfsel]; exact hdriven
  have hlast : lastDrivenWrite (channelOf ch) (addr.setWidth 6) t.history = some (data.setWidth 8) := by
    rw [← last_driven_write_trace, htrace, hdriven, last_driven_write_append, last_driven_write_append,
      last_driven_write_completed _ _ _ rfl]
    rfl
  obtain ⟨v, b, hread, -, hresponse, -, -, -, -, -, hbyte, -⟩ :=
    readByteReturnsTheDevicesByte t ws ts ch addr r hready hport' (by rw [hdone]; exact hs')
  refine ⟨v, ?_, ?_⟩
  · rw [← hread, ← run_add _ hwrite, hdone]
    congr 1
    omega
  · rw [hresponse, hbyte hdriven' (hcfg ▸ hdevice) _ hlast, ← dd_word_eq, ← dd_byte_eq]
    rfl

end Sys2Proof.Machine
end

section
/-! PROOFS. 45_activation.md: ACTIVATE is accepted (O27), the run of DEACTIVATE (O33), and the run of ACTIVATE (O34)
through the clock sequence, the pin loop and the slot set-up of R132. The set-up clears a slot before it reads it, so
the word it writes back is the default word whatever the slot was. -/

namespace Sys2Proof.Machine

/-! ### ACTIVATE is accepted (R133) -/

/-- R135: a handle that is not ACTIVE, in IDLE, admits ACTIVATE. -/
theorem admitted_activate_runs {s : State} (hf : s.fault = none) (hp : s.pc = .idle) (hh : s.hstate ≠ .active) :
    exec .activate s = .next (acceptActivate (s.setResponse none)) := by
  obtain ⟨h, -⟩ | ⟨-, h, -⟩ | ⟨-, -, e⟩ := admit_activate_cases acceptActivate s
  · exact absurd hp h
  · exact absurd h hh
  · exact e ▸ while_running_of_none _ hf

theorem accept_activate_mapped {s : State} (hm : mapOutcome s = true) :
    acceptActivate s = { s with
      x := { s.x with opc := 0x01 }, hstate := .active, pc := .clkDisable
      draws := s.draws + 1, maps := s.maps.tail } :=
  if_pos hm

theorem accept_activate_failed {s : State} (hm : mapOutcome s = false) :
    acceptActivate s = { s with
      x := { s.x with opc := 0x01 }, hstate := .failed, pc := .idle, response := some ⟨.unavailable, 0⟩
      draws := s.draws + 1, maps := s.maps.tail } :=
  if_neg (Bool.eq_false_iff.mp hm)

/-- Settles O27: past admission, the outcome of the mapping alone decides which accept step it is. -/
theorem activateIsAccepted : Obligations.ActivateIsAccepted := by
  intro s ⟨hf, _⟩ hp hh
  refine ⟨fun hm => ?_, fun hm => ?_⟩
  · rw [admitted_activate_runs hf hp hh, accept_activate_mapped (s := s.setResponse none) hm]
    rfl
  · rw [admitted_activate_runs hf hp hh, accept_activate_failed (s := s.setResponse none) hm, hp]
    rfl

/-! ### Where the shared phases go on to (R99, R104) -/

theorem clk_exit_activate {s : State} (ho : s.x.opc = opcActivate) :
    clkExit s = (s.setX { s.x with k := 0, fsel := fselSmi }).setPc .pinSet := if_pos ho

theorem pin_exit_activate {s : State} (hk : s.x.k = 15) (ho : s.x.opc = opcActivate) :
    pinExit s = (s.setX { s.x with k := 0 }).setPc .actSlotInit := by
  simp [pinExit, hk, ho]

theorem pin_exit_deactivate {s : State} (hk : s.x.k = 15) (ho : s.x.opc = opcDeactivate) :
    pinExit s = s.setPc .deactRelease := by
  have hne : opcDeactivate ≠ opcActivate := by decide
  simp [pinExit, hk, ho, hne]

/-! ### DEACTIVATE (R134) -/

/-- Settles O33: the host's turn accepts the command, the loop makes its sixteen requests, the release changes the
handle alone, and RESPOND ends it. -/
theorem deactivateReleasesTheHandle : Obligations.DeactivateReleasesTheHandle := by
  intro s ws ts hclean hp hh hport hs
  have hd : decodeCommand s.port = .ok (.deactivate, ws) := by
    rw [hport]
    exact decode_command_of_encode (i := .deactivate) rfl ws
  obtain ⟨haccept, -⟩ := plainCommandsAreAccepted ((s.setSchedule (List.replicate 18 .controller ++ ts)).setPort ws)
    hclean hp hh
  calc run 19 s
      = run 18 _ := run_succ 18 ((step_host hs hd).trans haccept)
    _ = run 2 (pinExit _) := run_pin_loop (ts := .controller :: .controller :: ts) 2 ⟨rfl, hclean.1, rfl⟩ rfl
    _ = run 2 _ := congrArg (run 2) (pin_exit_deactivate rfl rfl)
    _ = run 1 _ := run_deact_release (ts := .controller :: ts) 1 ⟨rfl, hclean.1, rfl⟩
    _ = run 0 _ := run_respond (ts := ts) 0 ⟨rfl, hclean.1, rfl⟩
    _ = .next _ := by rw [hp]; rfl

/-! ### The default slot word (R52, R132) -/

/-- A field of `i` bits below a shifted one. -/
theorem or_eq_add_of_field {b i : Nat} (a : Nat) (hb : b < 2 ^ i) : a * 2 ^ i ||| b = a * 2 ^ i + b := by
  rw [← Nat.shiftLeft_eq, Nat.shiftLeft_add_eq_or_of_lt hb]

/-- R52: the four counts lie in fields of their own, so their word is a sum. -/
theorem counts_word_eq (setup strobe hold pace : Word) :
    countsWord setup strobe hold pace = BitVec.ofNat 32 (setup.toNat % 64 * 2 ^ 24 + hold.toNat % 64 * 2 ^ 16 +
      pace.toNat % 128 * 2 ^ 8 + strobe.toNat % 128) := by
  refine BitVec.eq_of_toNat_eq ?_
  simp only [countsWord, BitVec.toNat_or, BitVec.toNat_shiftLeft, BitVec.toNat_setWidth, Nat.shiftLeft_eq,
    BitVec.toNat_ofNat]
  simp (disch := omega) only [Nat.mod_eq_of_lt]
  rw [Nat.or_assoc, Nat.or_assoc, or_eq_add_of_field (i := 8) _ (by omega), or_eq_add_of_field (i := 16) _ (by omega),
    or_eq_add_of_field (i := 24) _ (by omega)]
  omega

/-- R53 on a cleared slot. -/
theorem slot_word_cleared (c : Params) : slotWord 0 (defaultCounts c) = defaultSlotWord c := by
  rw [slotWord, BitVec.ofNat_eq_ofNat, BitVec.zero_and, BitVec.zero_or]
  exact counts_word_eq _ _ _ _

/-! ### A vector filled from the front -/

/-- The first `k` entries of a vector have the value `a`. -/
def FilledBelow {α : Type} {n : Nat} (v : Vector α n) (k : Nat) (a : α) : Prop :=
  ∀ (i : Nat) (hi : i < n), i < k → v[i] = a

theorem filled_below_zero {α : Type} {n : Nat} (v : Vector α n) (a : α) : FilledBelow v 0 a :=
  fun _ _ h => absurd h (Nat.not_lt_zero _)

theorem filled_below_set {α : Type} {n k : Nat} {v : Vector α n} {a : α} (hv : FilledBelow v k a) (hk : k < n) :
    FilledBelow (v.set k a) (k + 1) a := by
  intro i hi hlt
  obtain rfl | hne := eq_or_ne k i
  · exact Vector.getElem_set_self _
  · rw [Vector.getElem_set_ne _ _ hne]
    exact hv i hi (by omega)

theorem filled_below_all {α : Type} {n k : Nat} {v : Vector α n} {a : α} (hv : FilledBelow v k a) (hk : n ≤ k) :
    v = Vector.replicate n a := by
  ext1 i hi
  rw [hv i hi (by omega), Vector.getElem_replicate]

/-! ### The slot set-up (R132) -/

theorem setup_exit_next {s : State} (hk : s.x.k.toNat < 7) :
    setupExit s = (s.setX { s.x with k := s.x.k + 1 }).setPc .actSlotInit := if_pos hk

theorem setup_exit_respond {s : State} (hk : s.x.k = 7) : setupExit s = s.setPc .respond := by
  simp [setupExit, hk]

/-- R132, one slot: it is cleared, read back into `tmp`, and given the default word. (The side conditions are `by exact`
because the states they speak of come from the equation before.) -/
theorem run_slot_setup {s : State} {ts : List Turn} (n : Nat)
    (h : AtPhase s .actSlotInit (.controller :: .controller :: ts)) (hk : s.x.k.toNat < 8) :
    run (n + 3) s = run n (setupExit { s with
      schedule := ts, pc := .actSlotWrite, x := { s.x with tmp := 0 }
      slot := s.slot.set s.x.k.toNat (defaultSlotWord s.cfg)
      history := s.history ++ slotSetupTrace s.cfg s.x.k.toNat }) := by
  calc run (n + 3) s
      = run (n + 2) _ := run_act_slot_init (n + 2) h hk
    _ = run (n + 1) _ := run_act_slot_read (n + 1) ⟨rfl, by exact h.clean, rfl⟩ (by exact hk)
    _ = run n (setupExit _) := run_act_slot_write n ⟨rfl, by exact h.clean, rfl⟩ (by exact hk)
    _ = run n (setupExit _) := by
      simp only [Vector.getElem_set_self, Vector.set_set, slot_word_cleared, List.append_assoc, List.cons_append,
        List.nil_append]
      rfl

/-- R132, from slot `x[k]` on: the three transactions on each slot that is left. -/
theorem run_slots_from {ts : List Turn} (n j : Nat) {s : State}
    (h : AtPhase s .actSlotInit (List.replicate (3 * j + 2) .controller ++ ts)) (hj : s.x.k.toNat + j = 7)
    (hs : FilledBelow s.slot s.x.k.toNat (defaultSlotWord s.cfg)) :
    run (n + 3 * (j + 1)) s = run n { s with
      schedule := ts, pc := .respond, x := { s.x with k := 7, tmp := 0 }
      slot := Vector.replicate 8 (defaultSlotWord s.cfg)
      history := s.history ++ (List.range' s.x.k.toNat (j + 1)).flatMap (slotSetupTrace s.cfg) } := by
  induction j generalizing s with
  | zero =>
    have hk : s.x.k = 7 := BitVec.eq_of_toNat_eq hj
    have hlt : s.x.k.toNat < 8 := by omega
    calc run (n + 3) s
        = run n (setupExit _) := run_slot_setup n h hlt
      _ = run n _ := congrArg (run n) (setup_exit_respond hk)
      _ = run n _ := by rw [filled_below_all (filled_below_set hs hlt) (by omega), ← hk]; rfl
  | succ j ih =>
    have hlt : s.x.k.toNat < 7 := by omega
    have hsucc : (s.x.k + 1).toNat = s.x.k.toNat + 1 := by
      rw [BitVec.toNat_add_of_lt (by simp; omega)]; rfl
    have hleft : (s.x.k + 1).toNat + j = 7 := by omega
    have hfilled := filled_below_set hs (Nat.lt_succ_of_lt hlt)
    rw [← hsucc] at hfilled
    calc run (n + 3 * (j + 1 + 1)) s
        = run (n + 3 * (j + 1)) (setupExit _) := run_slot_setup (n + 3 * (j + 1)) h (by omega)
      _ = run (n + 3 * (j + 1)) _ := congrArg (run _) (setup_exit_next hlt)
      _ = run n _ := ih ⟨rfl, h.clean, rfl⟩ hleft hfilled
      _ = run n _ := by
        simp only [State.setX, State.setPc, hsucc, List.range'_succ (s := s.x.k.toNat), List.flatMap_cons,
          List.append_assoc]

/-! ### ACTIVATE (R131, R133) -/

/-- R132, the whole set-up: the three transactions on each of the eight slots, and every slot with the default word. -/
theorem run_slots {s : State} {ts : List Turn} (n : Nat)
    (h : AtPhase s .actSlotInit (List.replicate 23 .controller ++ ts)) (hk : s.x.k = 0) :
    run (n + 24) s = run n { s with
      schedule := ts, pc := .respond, x := { s.x with k := 7, tmp := 0 }
      slot := Vector.replicate 8 (defaultSlotWord s.cfg)
      history := s.history ++ (List.range 8).flatMap (slotSetupTrace s.cfg) } := by
  have hzero : s.x.k.toNat = 0 := by rw [hk]; rfl
  rw [run_slots_from n 7 h (by rw [hzero]) (hzero ▸ filled_below_zero _ _), hzero]
  rfl

/-- Settles O34: the host's turn accepts the command; the clock sequence, the pin loop and the slot set-up follow one
another; RESPOND ends it. -/
theorem activateSetsUpTheBlock : Obligations.ActivateSetsUpTheBlock := by
  intro s ws ts hclean hp hh hm hport hs
  have hd : decodeCommand s.port = .ok (.activate, ws) := by
    rw [hport]
    exact decode_command_of_encode (i := .activate) rfl ws
  obtain ⟨haccept, -⟩ := activateIsAccepted ((s.setSchedule (List.replicate 44 .controller ++ ts)).setPort ws)
    hclean hp hh
  calc run 45 s
      = run 44 _ := run_succ 44 ((step_host hs hd).trans (haccept hm))
    _ = run 41 (clkExit _) := run_clock_sequence (ts := List.replicate 41 .controller ++ ts) 41 ⟨rfl, hclean.1, rfl⟩
    _ = run 41 _ := congrArg (run 41) (clk_exit_activate rfl)
    _ = run 25 (pinExit _) := run_pin_loop (ts := List.replicate 25 .controller ++ ts) 25 ⟨rfl, hclean.1, rfl⟩ rfl
    _ = run 25 _ := congrArg (run 25) (pin_exit_activate rfl rfl)
    _ = run 1 _ := run_slots (ts := .controller :: ts) 1 ⟨rfl, hclean.1, rfl⟩ rfl
    _ = run 0 _ := run_respond (ts := ts) 0 ⟨rfl, hclean.1, rfl⟩
    _ = .next _ := by
      simp only [State.setX, State.setPc, State.setPort, State.setSchedule, List.append_assoc]
      rw [hp]; rfl

end Sys2Proof.Machine
end

section
/-! PROOFS. 60_exceptions.md: admission (O6, O25), the stop after a fault (O26), a fault is precise (O51), and what runs
beside a command in progress (O59). A step takes a fault as its whole effect or it keeps the mark; the whole effect is
`State.takeFault` on the state whose turn and words are used up. -/

namespace Sys2Proof.Machine

/-! ### The host's turn, and `exec` after a fault (R135, R142) -/

/-- Settles O6: the host's turn with a whole command at the front of the port. -/
theorem hostTurnRunsTheDecodedCommand : Obligations.HostTurnRunsTheDecodedCommand := by
  intro s ts i rest hs hd
  exact (step_host hs hd).trans (congrArg (exec i) rfl)

/-- R142: every row of the table, command or transaction, runs only while there is no fault. -/
theorem exec_while_running (i : Instr) (s : State) : ∃ t, exec i s = whileRunning s t := by
  cases hc : i.isCommand with
  | false => exact ⟨_, exec_bus_row i hc s⟩
  | true =>
    cases i with
    | activate | deactivate | configureClock | activatePins | deactivatePins | setTiming | writeByte | readByte =>
      exact ⟨_, rfl⟩
    | _ => cases hc

/-- Settles O26: what runs only while there is no fault answers the recorded one. -/
theorem nothingRunsAfterAFault : Obligations.NothingRunsAfterAFault := by
  intro s i f hf
  obtain ⟨t, e⟩ := exec_while_running i s
  rw [e, whileRunning, hf]

/-! ### Admission (R135, R136, R159) -/

/-- No row of the table ends in a stop while there is no fault. -/
theorem exec_runs (i : Instr) {s : State} (hf : s.fault = none) : ∃ t, exec i s = .next t := by
  obtain ⟨t, e⟩ := exec_while_running i s
  exact ⟨t, e.trans (while_running_of_none t hf)⟩

/-- Settles O25: the four outcomes of a command exclude each other by phase, command and handle. -/
theorem admissionFaults : Obligations.AdmissionFaults := by
  intro s i ⟨hf, _⟩ hc
  obtain ⟨t, ht⟩ := exec_runs i hf
  rw [ht]
  obtain ⟨-, ⟨hp, rfl⟩ | ⟨hp, hi, hh, rfl⟩ | ⟨hp, hi, hh, rfl⟩ | ⟨hp, ha, -⟩⟩ := exec_command_next hc ht
  · exact ⟨fun _ => rfl, fun h => absurd h hp, fun h => absurd h hp⟩
  · exact ⟨absurd hp, fun _ _ _ => hp ▸ rfl, fun _ h => absurd hi h⟩
  · exact ⟨absurd hp, fun _ h => absurd h hi, fun _ _ _ => hp ▸ rfl⟩
  · refine ⟨absurd hp, fun _ hi hh => ?_, fun _ hi hh => ?_⟩
    · exact absurd hh (by simpa only [handleAdmits, if_pos hi] using ha)
    · exact absurd (by simpa only [handleAdmits, if_neg hi] using ha) hh

/-! ### A fault is the whole effect of its step (R142) -/

/-- The fault mark stays as it is, or `t` is `s` with a fault taken and nothing else done. -/
def KeepsOrTakesFault (s t : State) : Prop := t.fault = s.fault ∨ ∃ f b, t = s.takeFault f b

theorem takes_fault (s : State) (f : Fault) (b : Option BusReq) : KeepsOrTakesFault s (s.takeFault f b) :=
  .inr ⟨f, b, rfl⟩

theorem commit_keeps_or_takes (r : BusReq) (s : State) : KeepsOrTakesFault s (commit r s (busEffect r s)) := by
  obtain ⟨f, e⟩ | ⟨t, ev, hs, e⟩ | ⟨t, ev, x, hs, e⟩ := commit_bus_cases r s <;> rw [e]
  · exact takes_fault s f (some r)
  · exact .inl hs.fault
  · exact .inl hs.fault

/-- The rest of a phase comes only after a write that does not fault. -/
theorem issue_write_keeps_or_takes (r : BusReq) {after : State → State} (s : State) (ha : ∀ u, GoesOn u (after u)) :
    KeepsOrTakesFault s (issueWrite r after s) := by
  cases hr : (busEffect r s).faults with
  | true =>
    rw [issueWrite, if_pos hr]
    exact commit_keeps_or_takes r s
  | false => exact .inl (issue_write_keeps_fault hr ha)

/-- The rest of a phase comes only after a read that does not fault. -/
theorem issue_read_keeps_or_takes (r : BusReq) {after : Word → State → State} (s : State)
    (ha : ∀ v u, GoesOn u (after v u)) : KeepsOrTakesFault s (issueRead r after s) := by
  cases hr : (busEffect r s).faults with
  | true =>
    unfold issueRead
    cases he : busEffect r s with
    | fault f => exact takes_fault s f (some r)
    | done v t | refused x t => rw [he] at hr; cases hr
  | false => exact .inl (issue_read_keeps_fault hr ha)

/-- R142: a phase whose transaction faults does nothing else. -/
theorem phase_step_keeps_or_takes (s : State) : KeepsOrTakesFault s (phaseStep s) := by
  unfold phaseStep
  cases s.pc with
  | idle | deactRelease | respond => exact .inl rfl
  | clkEnable => exact issue_write_keeps_or_takes _ s clk_exit_goes_on
  | pinSet => exact issue_write_keeps_or_takes _ s pin_exit_goes_on
  | actSlotWrite => exact issue_write_keeps_or_takes _ s setup_exit_goes_on
  | clkDisable | clkDivide | timWrite | xfClearStale | xfAddr | xfData | xfTrigger | xfClearDone | actSlotInit =>
    exact issue_write_keeps_or_takes _ s fun u => goes_on_set_pc u _
  | timRead | xfCapture | actSlotRead => exact issue_read_keeps_or_takes _ s fun _ u => goes_on_set_x_set_pc u _ _
  | xfCheck => exact issue_read_keeps_or_takes _ s check_exit_goes_on
  | xfPoll => exact issue_read_keeps_or_takes _ s fun _ u => poll_exit_goes_on _ u _

/-- R135: a command that is not admitted does nothing but fault. -/
theorem exec_command_keeps_or_takes {i : Instr} {s t : State} (hc : i.isCommand = true) (h : exec i s = .next t) :
    KeepsOrTakesFault s t := by
  obtain ⟨-, ⟨-, rfl⟩ | ⟨-, -, -, rfl⟩ | ⟨-, -, -, rfl⟩ | ⟨-, -, rfl⟩⟩ := exec_command_next hc h
  · exact takes_fault s .overlap none
  · exact takes_fault s .unpaired none
  · exact takes_fault s .unavailable none
  · exact .inl (accept_of_block i (s.setResponse none)).fault

theorem admit_illegal_keeps_or_takes (s : State) : KeepsOrTakesFault s (admitIllegal s) := by
  obtain ⟨-, e⟩ | ⟨-, e⟩ := admit_illegal_cases s <;> rw [e]
  · exact takes_fault s .overlap none
  · exact .inl rfl

/-- R97: a completion does not fault. -/
theorem engine_step_fault (s : State) : (engineStep s).fault = s.fault := by
  obtain ⟨x, -, -, e⟩ | ⟨-, e⟩ := engine_step_cases s
  · obtain ⟨dd, n, es, ex, -⟩ := complete_xfer_precise s x
    rw [e, ex]
  · rw [e]

/-! #### The turn and the words that a step uses up (R49) -/

/-- The state with its next turn used up, and with it the words that the turn takes from the command port. -/
def State.inputsUsed (s : State) : State := s.afterTurn.setPort s.portAfterTurn

theorem inputs_used_of_no_host {s : State} (h : s.schedule.head? ≠ some .host) : s.inputsUsed = s.afterTurn :=
  congrArg s.afterTurn.setPort (port_after_turn_of_no_host h)

theorem inputs_used_of_bus {s : State} {r : BusReq} (h : s.schedule.head? = some (.bus r)) :
    s.inputsUsed = s.afterTurn :=
  inputs_used_of_no_host (by simp [h])

theorem inputs_used_of_command {s : State} {i : Instr} {rest : List Word} (hs : s.schedule.head? = some .host)
    (hd : decodeCommand s.port = .ok (i, rest)) : s.inputsUsed = s.afterTurn.setPort rest := by
  simp only [State.inputsUsed, State.portAfterTurn, hs, hd]

theorem inputs_used_of_illegal {s : State} (hs : s.schedule.head? = some .host)
    (hd : decodeCommand s.port = .error .illegalCommand) : s.inputsUsed = s.afterTurn.setPort s.port.tail := by
  simp only [State.inputsUsed, State.portAfterTurn, hs, hd]

/-- R142: whoever moves, a step that faults has used up its inputs and taken the fault. -/
theorem step_keeps_or_takes {s t : State} (h : step s = .next t) : KeepsOrTakesFault s.inputsUsed t := by
  cases step_kind h with
  | engine _ ht => exact .inl (ht ▸ engine_step_fault s.afterTurn)
  | phase hs _ ht =>
    have hhost : s.schedule.head? ≠ some .host := by obtain hs | hs := hs <;> simp [hs]
    rw [ht, inputs_used_of_no_host hhost]
    exact phase_step_keeps_or_takes s.afterTurn
  | waits _ _ ht => exact .inl (by rw [ht]; rfl)
  | illegal hs _ hd ht =>
    rw [ht, inputs_used_of_illegal hs hd]
    exact admit_illegal_keeps_or_takes _
  | command i rest hs hd ht =>
    rw [inputs_used_of_command hs hd]
    exact exec_command_keeps_or_takes (decode_command_is_command hd) ht
  | bus r i hs _ hd ht =>
    rw [inputs_used_of_bus hs, (exec_decoded_bus hd ht).2]
    exact commit_keeps_or_takes r s.afterTurn
  | unlisted r e hs _ _ _ ht =>
    rw [ht, inputs_used_of_bus hs]
    exact takes_fault s.afterTurn .busUnlisted (some r)
  | secondIssuer r hs _ _ ht =>
    rw [ht, inputs_used_of_bus hs]
    exact takes_fault s.afterTurn .overlap none

/-- Settles O51: a step that faults is the taking of the fault, and the record is that of `State.takeFault`. -/
theorem faultsArePrecise : Obligations.FaultsArePrecise := by
  intro s t f hstep hnone hf
  obtain h | ⟨reason, b, rfl⟩ := step_keeps_or_takes hstep
  · cases hf.symm.trans (h.trans hnone)
  · rw [take_fault_fault] at hf
    cases hf
    cases b with
    | none => exact ⟨rfl, rfl, .inl ⟨rfl, rfl⟩⟩
    | some r => exact ⟨rfl, rfl, .inr ⟨_, _, rfl, rfl⟩⟩

/-! ### Beside a command in progress (R44, R136, R149) -/

/-- A request that is turned away: its inputs are used up, and F_OVERLAP is all that it leaves. -/
theorem turned_away_eq (s : State) : s.inputsUsed.takeFault .overlap none = { s with
    schedule := s.schedule.tail, port := s.portAfterTurn, fault := some ⟨.overlap, s.pc, none⟩ } := rfl

/-- Settles O59: of the kinds of step, a command and an illegal header fault at admission, and a harness's request is a
second issuer's. -/
theorem onlyTheEngineRunsBesideTheController : Obligations.OnlyTheEngineRunsBesideTheController := by
  intro s t hp hf hstep
  rw [← turned_away_eq]
  cases step_kind hstep with
  | engine _ ht => exact .inr (.inl ht)
  | phase _ _ ht => exact .inl ht
  | waits hs hd ht => exact .inr (.inr ⟨.inl hs, .inr ⟨hd, ht⟩⟩)
  | illegal hs _ hd ht =>
    obtain ⟨-, e⟩ | ⟨hi, -⟩ := admit_illegal_cases (s.afterTurn.setPort s.port.tail)
    · exact .inr (.inr ⟨.inl hs, .inl (by rw [ht, e, inputs_used_of_illegal hs hd])⟩)
    · exact absurd hi hp
  | command i rest hs hd ht =>
    obtain ⟨-, ⟨-, e⟩ | ⟨hi, -⟩ | ⟨hi, -⟩ | ⟨hi, -⟩⟩ := exec_command_next (decode_command_is_command hd) ht
    · exact .inr (.inr ⟨.inl hs, .inl (by rw [e, inputs_used_of_command hs hd])⟩)
    all_goals exact absurd hi hp
  | bus r i _ hi _ _ => exact absurd hi hp
  | unlisted r e _ hi _ _ _ => exact absurd hi hp
  | secondIssuer r hs _ _ ht => exact .inr (.inr ⟨.inr ⟨r, hs⟩, .inl (by rw [ht, inputs_used_of_bus hs])⟩)

end Sys2Proof.Machine
end

section
/-! PROOFS. 70_reset_and_hazards.md: what reset fixes (O1), and that the invariants hold there (O2). The draws do not
matter to them: in IDLE, with the handle UNMAPPED and nothing in flight, each holds whatever the registers hold. -/

namespace Sys2Proof.Machine

/-- Settles O1: each of the fields is written out in `State.reset`. -/
theorem resetIsIdleUnmappedAndEmpty : Obligations.ResetIsIdleUnmappedAndEmpty :=
  ⟨rfl, rfl, rfl, rfl, rfl, rfl, rfl, rfl⟩

/-- In IDLE the controller's invariant asks only for the width of what is in flight and for the marks. -/
theorem inv_of_idle_drained {s : State} (hi : s.pc = .idle) (hp : s.pending = none)
    (hm : s.refused = s.refusal.isSome) : s.Inv where
  phase := phase_fits_idle hi
  response hne := absurd hi hne
  width x hx := by cases hp.symm.trans hx
  refusal := hm

/-- R101: without an ACTIVE handle nothing is asked of the clock outside its sequence. -/
theorem clock_ready_of_not_active {s : State} (hp : s.pc.isClock = false) (hh : s.hstate ≠ .active) :
    s.clockReady = true :=
  (clock_ready_outside hp).mpr fun ha => absurd ha hh

/-- In IDLE nothing is asked of DONE, so that a stale one does no harm. -/
theorem transfer_fits_of_idle_drained {s : State} (hi : s.pc = .idle) (hp : s.pending = none) :
    s.transferFits = true := by
  simp only [State.transferFits, hi, hp, Option.isNone_none]

/-- Settles O2: the values that R152 fixes are enough for each of the invariants. -/
theorem invariantsHoldAtReset : Obligations.InvariantsHoldAtReset := by
  obtain ⟨hidle, hunmapped, -, -, -, -, hpending, -⟩ := resetIsIdleUnmappedAndEmpty
  have hclock : State.reset.pc.isClock = false := congrArg Phase.isClock hidle
  have hactive : State.reset.hstate ≠ .active := by simp [hunmapped]
  exact ⟨inv_of_idle_drained hidle hpending rfl, clock_fits_outside hclock,
    clock_ready_of_not_active hclock hactive, transfer_fits_of_idle_drained hidle hpending⟩

end Sys2Proof.Machine
end
